-- ==== Sys2Proof/Word.lean ====
section
/-! DEFINITION. The words of the block: their widths (00_scope.md R6, R8). All register values are unsigned. -/

namespace Sys2Proof

/-- A 32-bit bus word: a descriptor, a data word, `TICK` or a timestamp (`TICK_W = 32`, R6). -/
abbrev Word := BitVec 32

/-- A colour word of 24 bits (40_encoder.md R100). -/
abbrev Color := BitVec 24

/-- A duty value, a PULSE entry, `CMP`, and the 16-bit counts (`DUTY_W = 16`, R6). -/
abbrev Half := BitVec 16

end Sys2Proof
end

