-- ==== Sys2Proof/Config.lean ====
section
/-! DEFINITION. What a configuration fixes before reset (00_scope.md R6), the example configuration EX (R7), and the
free values the spec leaves open (93_implementation_defined.md U9, U10, U12): opaque constants with no body, so that
no proof can know one. -/

namespace Sys2Proof

/-- The OPEN parameters of R6. `N_TASKS` is the number of task periods, so the two cannot disagree. -/
structure Config where
  /-- `N_LEDS`, the strip length. -/
  nLeds : Nat
  /-- `PWM_PERIOD`, in generator counts. -/
  pwmPeriod : Half
  /-- `DUTY_SHORT`, the duty of a 0 bit. -/
  dutyShort : Half
  /-- `DUTY_LONG`, the duty of a 1 bit. -/
  dutyLong : Half
  /-- `TASK_PERIOD[i]`, channel 0 first. -/
  taskPeriod : List Word
  deriving DecidableEq, Repr

namespace Config

/-- `N_TASKS` (R6). -/
def nTasks (c : Config) : Nat := c.taskPeriod.length

/-- `PULSE_CAP = 24 × N_LEDS + 1` (R6). -/
def pulseCap (c : Config) : Nat := 24 * c.nLeds + 1

/-- The ranges of R6 (with 90_conflicts.md C8: they need `PWM_PERIOD ≥ 3`). -/
abbrev Valid (c : Config) : Prop :=
  1 ≤ c.nLeds ∧ c.nLeds ≤ 341 ∧ 1 ≤ c.nTasks ∧ c.nTasks ≤ 14 ∧
    1 ≤ c.dutyShort.toNat ∧ c.dutyShort.toNat < c.dutyLong.toNat ∧ c.dutyLong.toNat < c.pwmPeriod.toNat

/-- The name of a configuration (R3). -/
def name (c : Config) : String :=
  "LEDSTRIP-L" ++ toString c.nLeds ++ "-T" ++ toString c.nTasks ++ "-S" ++ toString c.dutyShort.toNat ++
    "-G" ++ toString c.dutyLong.toNat ++ "-P" ++ toString c.pwmPeriod.toNat

/-- The example configuration `EX` (R7). DESIGN CHOICE: the one `State.reset` carries (log entry 1). -/
def ex : Config :=
  { nLeds := 4, pwmPeriod := 100, dutyShort := 30, dutyLong := 50, taskPeriod := [50, 1000] }

/-- FREE VALUE: what `COLOR[k]` holds after the reset that took draw `n`, until its first write (10_state.md R23,
U9). Marked in log entry 2. -/
opaque drawColor (n k : Nat) : Color

/-- FREE VALUE: what `PULSE[j]` holds after the reset that took draw `n`, until a START writes it (10_state.md R24,
U10). Marked in log entry 2. -/
opaque drawPulse (n j : Nat) : Half

/-- FREE VALUE: the number (30_encoding.md R73) of the internal event that comes next when no input is scheduled
(60_exceptions.md R188, U12). Marked in log entry 5. -/
opaque drawEvent (n : Nat) : Fin 3

end Config

end Sys2Proof
end

