-- ==== Sys2Proof/Syntax.lean ====
section
/-! DEFINITION. The operations of the block (30_encoding.md R70, R80): one constructor per row of opcode_table.json,
and the pair of words that names an operation. -/

namespace Sys2Proof

/-- A channel index `i = OFS[7:4] - 2` (30_encoding.md R74). The channel area has room for 14 (20_memory.md R53);
whether `i < N_TASKS` is the configuration's (WellFormed). -/
abbrev Channel := Fin 14

/-- A COLOR index `k = OFS[13:2]` (R74). -/
abbrev ColorIx := BitVec 12

/-- A PULSE index `j = OFS[14:2]` (R74). -/
abbrev PulseIx := BitVec 13

/-- An operation as it is issued: the 32-bit descriptor `d` and the 32-bit data word `D` beside it, which only a
write uses (R70). -/
structure Operation where
  /-- The descriptor `d`. -/
  descriptor : Word
  /-- The data word `D`. -/
  data : Word
  deriving DecidableEq, Repr

/-- The operations (R80). A write carries its data word; no immediate is sign-extended (R75). -/
inductive Instr where
  | rdCtrl
  | rdStatus
  | rdFrameLen
  | rdTick
  | rdCfg0
  | rdCfg1
  | rdCfg2
  | rdXfer
  | rdLast (i : Channel)
  | rdPeriod (i : Channel)
  | rdCheck (i : Channel)
  | rdColor (k : ColorIx)
  | rdPulse (j : PulseIx)
  | wrCtrl (data : Word)
  | wrStatus (data : Word)
  | wrFrameLen (data : Word)
  | wrTick (data : Word)
  | wrCfg0 (data : Word)
  | wrCfg1 (data : Word)
  | wrCfg2 (data : Word)
  | wrXfer (data : Word)
  | wrLast (i : Channel) (data : Word)
  | wrPeriod (i : Channel) (data : Word)
  | wrCheck (i : Channel) (data : Word)
  | wrColor (k : ColorIx) (data : Word)
  | wrPulse (j : PulseIx) (data : Word)
  | evTick
  | evPeriod
  | evComplete
  /-- An access with verdict BUS_ERROR; its operand is its descriptor, the recorded value of R180. -/
  | busError (d : Word)
  deriving DecidableEq, Repr

/-- The rows of the opcode table but BUS_ERROR, which R76 keeps out of the search. -/
inductive Row where
  | rdCtrl | rdStatus | rdFrameLen | rdTick | rdCfg0 | rdCfg1 | rdCfg2 | rdXfer
  | rdLast | rdPeriod | rdCheck | rdColor | rdPulse
  | wrCtrl | wrStatus | wrFrameLen | wrTick | wrCfg0 | wrCfg1 | wrCfg2 | wrXfer
  | wrLast | wrPeriod | wrCheck | wrColor | wrPulse
  | evTick | evPeriod | evComplete
  deriving DecidableEq, Repr

/-- Why a descriptor spells no operation (R76, R78). The names are the model's (log entry 13). -/
inductive InvalidReason where
  /-- KIND = 0b11. -/
  | kindNone
  /-- RES ≠ 0. -/
  | reservedBits
  /-- An event with SIZE ≠ 0b00. -/
  | eventSize
  /-- An event number of 3 or more (R73). -/
  | unusedEvent
  /-- A read or write with SIZE = 0b11. -/
  | sizeNone
  deriving DecidableEq, Repr

/-- What the decoder answers: an operation (a row of R80, BUS_ERROR among them) or INVALID (R76). -/
inductive Verdict where
  | operation (i : Instr)
  | invalid (why : InvalidReason)
  deriving DecidableEq, Repr

end Sys2Proof
end

