-- ==== Sys2Proof/WellFormed.lean ====
section
/-! DEFINITION. Which instructions a configuration admits: the index bounds of 20_memory.md R54, and for BUS_ERROR
the accesses that R52 and R54 turn away, written from the address map of R53 (not from the decoder's table). -/

namespace Sys2Proof

/-- The offsets R53 maps, as byte offsets of words. -/
def offsetMapped (c : Config) (ofs : Nat) : Bool :=
  decide (ofs < 0x20) ||
    decide (0x20 ≤ ofs ∧ ofs < 0x20 + 0x10 * c.nTasks ∧ ofs % 16 ≠ 12) ||
    decide (0x4000 ≤ ofs ∧ ofs < 0x4000 + 4 * c.nLeds) ||
    decide (0x8000 ≤ ofs ∧ ofs < 0x8000 + 4 * c.pulseCap)

/-- A real access (R78: KIND read or write, RES = 0, SIZE not 0b11) that is answered with an error: not word-sized,
not aligned (20_memory.md R52), or at an offset marked RES (R54). -/
def accessErrs (c : Config) (d : Word) : Bool :=
  decide (d.toNat / 2 ^ 31 = 0) && decide (d.toNat / 2 ^ 16 % 2 ^ 12 = 0) && decide (d.toNat / 2 ^ 28 % 4 ≠ 3) &&
    (decide (d.toNat / 2 ^ 28 % 4 ≠ 2) || decide (d.toNat % 4 ≠ 0) || !offsetMapped c (d.toNat % 2 ^ 16))

/-- The instructions that some descriptor spells under `c`. -/
def Instr.wf (c : Config) : Instr → Bool
  | .rdLast i | .rdPeriod i | .rdCheck i => decide (i.val < c.nTasks)
  | .wrLast i _ | .wrPeriod i _ | .wrCheck i _ => decide (i.val < c.nTasks)
  | .rdColor k | .wrColor k _ => decide (k.toNat < c.nLeds)
  | .rdPulse j | .wrPulse j _ => decide (j.toNat < c.pulseCap)
  | .busError d => accessErrs c d
  | .rdCtrl | .rdStatus | .rdFrameLen | .rdTick | .rdCfg0 | .rdCfg1 | .rdCfg2 | .rdXfer => true
  | .wrCtrl _ | .wrStatus _ | .wrFrameLen _ | .wrTick _ | .wrCfg0 _ | .wrCfg1 _ | .wrCfg2 _ | .wrXfer _ => true
  | .evTick | .evPeriod | .evComplete => true

end Sys2Proof
end

