-- ==== Sys2Proof/Decode.lean ====
section
/-! DEFINITION. The opcode table of 30_encoding.md R80 as data, the decoder of R76 over it, total on every descriptor
and data word, and the encoder over the same table. -/

namespace Sys2Proof

/-- The column "match" of R80. -/
def rowMatch : Row → Word
  | .rdCtrl => 0x20000000
  | .rdStatus => 0x20000004
  | .rdFrameLen => 0x20000008
  | .rdTick => 0x2000000C
  | .rdCfg0 => 0x20000010
  | .rdCfg1 => 0x20000014
  | .rdCfg2 => 0x20000018
  | .rdXfer => 0x2000001C
  | .rdLast => 0x20000000
  | .rdPeriod => 0x20000004
  | .rdCheck => 0x20000008
  | .rdColor => 0x20004000
  | .rdPulse => 0x20008000
  | .wrCtrl => 0x60000000
  | .wrStatus => 0x60000004
  | .wrFrameLen => 0x60000008
  | .wrTick => 0x6000000C
  | .wrCfg0 => 0x60000010
  | .wrCfg1 => 0x60000014
  | .wrCfg2 => 0x60000018
  | .wrXfer => 0x6000001C
  | .wrLast => 0x60000000
  | .wrPeriod => 0x60000004
  | .wrCheck => 0x60000008
  | .wrColor => 0x60004000
  | .wrPulse => 0x60008000
  | .evTick => 0x80000000
  | .evPeriod => 0x80000001
  | .evComplete => 0x80000002

/-- The column "mask" of R80; "exact" is 0xFFFF_FFFF. -/
def rowMask : Row → Word
  | .rdLast | .rdPeriod | .rdCheck | .wrLast | .wrPeriod | .wrCheck => 0xFFFFFF0F
  | .rdColor | .wrColor => 0xFFFFC003
  | .rdPulse | .wrPulse => 0xFFFF8003
  | .rdCtrl | .rdStatus | .rdFrameLen | .rdTick | .rdCfg0 | .rdCfg1 | .rdCfg2 | .rdXfer => 0xFFFFFFFF
  | .wrCtrl | .wrStatus | .wrFrameLen | .wrTick | .wrCfg0 | .wrCfg1 | .wrCfg2 | .wrXfer => 0xFFFFFFFF
  | .evTick | .evPeriod | .evComplete => 0xFFFFFFFF

/-- The rows R76 searches: all of R80 but BUS_ERROR. -/
def opcodeRows : List Row :=
  [.rdCtrl, .rdStatus, .rdFrameLen, .rdTick, .rdCfg0, .rdCfg1, .rdCfg2, .rdXfer,
    .rdLast, .rdPeriod, .rdCheck, .rdColor, .rdPulse] ++
  [.wrCtrl, .wrStatus, .wrFrameLen, .wrTick, .wrCfg0, .wrCfg1, .wrCfg2, .wrXfer,
    .wrLast, .wrPeriod, .wrCheck, .wrColor, .wrPulse] ++
  [.evTick, .evPeriod, .evComplete]

/-- `(d & r.mask) == r.match` (R76). -/
def rowMatches (d : Word) (r : Row) : Bool := d &&& rowMask r == rowMatch r

/-- How many mask bits of a row are 1 (R76, R77). -/
def maskBits (r : Row) : Nat := (List.range 32).countP fun b => (rowMask r).getLsbD b

/-- Of two matching rows the one whose mask has more 1 bits; it is unique (R77). -/
def moreSpecific (best : Option Row) (r : Row) : Option Row :=
  match best with
  | none => some r
  | some b => if maskBits b < maskBits r then some r else some b

/-- The row of the matching rows whose mask has the most 1 bits (R76). -/
def bestRow (d : Word) : Option Row := (opcodeRows.filter (rowMatches d)).foldl moreSpecific none

/-- `KIND = d[31:30]` (R70). -/
def kindOf (d : Word) : BitVec 2 := d.extractLsb' 30 2

/-- `SIZE = d[29:28]` (R70). -/
def accessSizeOf (d : Word) : BitVec 2 := d.extractLsb' 28 2

/-- `RES = d[27:16]` (R70). -/
def resOf (d : Word) : BitVec 12 := d.extractLsb' 16 12

/-- `OFS` or `EVT`, `d[15:0]` (R70). -/
def ofsOf (d : Word) : Half := d.extractLsb' 0 16

/-- `OFS[7:4]`, the channel field CH of the channel rows. -/
def chOf (d : Word) : BitVec 4 := d.extractLsb' 4 4

/-- `OFS[13:2]`, the COLOR index (R74). -/
def colorIxOf (d : Word) : ColorIx := d.extractLsb' 2 12

/-- `OFS[14:2]`, the PULSE index (R74). -/
def pulseIxOf (d : Word) : PulseIx := d.extractLsb' 2 13

/-- The channel index `i = OFS[7:4] - 2` (R74); the rows' condition has `OFS[7:4] ≥ 2`. -/
def channelOf (d : Word) : Channel := Fin.ofNat 14 ((chOf d).toNat - 2)

/-- The condition of the channel rows (R80). -/
def channelCond (c : Config) (d : Word) : Bool :=
  decide (2 ≤ (chOf d).toNat) && decide ((chOf d).toNat - 2 < c.nTasks)

/-- The column "condition" of R80. -/
def rowCond (c : Config) (d : Word) : Row → Bool
  | .rdLast | .rdPeriod | .rdCheck | .wrLast | .wrPeriod | .wrCheck => channelCond c d
  | .rdColor | .wrColor => decide ((colorIxOf d).toNat < c.nLeds)
  | .rdPulse | .wrPulse => decide ((pulseIxOf d).toNat < c.pulseCap)
  | .rdCtrl | .rdStatus | .rdFrameLen | .rdTick | .rdCfg0 | .rdCfg1 | .rdCfg2 | .rdXfer => true
  | .wrCtrl | .wrStatus | .wrFrameLen | .wrTick | .wrCfg0 | .wrCfg1 | .wrCfg2 | .wrXfer => true
  | .evTick | .evPeriod | .evComplete => true

/-- The instruction of a row, with its operands pulled out of the descriptor and its data word (R74, R75). -/
def rowInstr (op : Operation) : Row → Instr
  | .rdCtrl => .rdCtrl
  | .rdStatus => .rdStatus
  | .rdFrameLen => .rdFrameLen
  | .rdTick => .rdTick
  | .rdCfg0 => .rdCfg0
  | .rdCfg1 => .rdCfg1
  | .rdCfg2 => .rdCfg2
  | .rdXfer => .rdXfer
  | .rdLast => .rdLast (channelOf op.descriptor)
  | .rdPeriod => .rdPeriod (channelOf op.descriptor)
  | .rdCheck => .rdCheck (channelOf op.descriptor)
  | .rdColor => .rdColor (colorIxOf op.descriptor)
  | .rdPulse => .rdPulse (pulseIxOf op.descriptor)
  | .wrCtrl => .wrCtrl op.data
  | .wrStatus => .wrStatus op.data
  | .wrFrameLen => .wrFrameLen op.data
  | .wrTick => .wrTick op.data
  | .wrCfg0 => .wrCfg0 op.data
  | .wrCfg1 => .wrCfg1 op.data
  | .wrCfg2 => .wrCfg2 op.data
  | .wrXfer => .wrXfer op.data
  | .wrLast => .wrLast (channelOf op.descriptor) op.data
  | .wrPeriod => .wrPeriod (channelOf op.descriptor) op.data
  | .wrCheck => .wrCheck (channelOf op.descriptor) op.data
  | .wrColor => .wrColor (colorIxOf op.descriptor) op.data
  | .wrPulse => .wrPulse (pulseIxOf op.descriptor) op.data
  | .evTick => .evTick
  | .evPeriod => .evPeriod
  | .evComplete => .evComplete

/-- The event branch of R76 (event numbers: R73). -/
def decodeEvent (d : Word) : Verdict :=
  if accessSizeOf d ≠ 0 then .invalid .eventSize
  else if ofsOf d = 0 then .operation .evTick
  else if ofsOf d = 1 then .operation .evPeriod
  else if ofsOf d = 2 then .operation .evComplete
  else .invalid .unusedEvent

/-- The row search that ends R76, with its two fallbacks to BUS_ERROR. -/
def decodeMapped (c : Config) (op : Operation) : Instr :=
  match bestRow op.descriptor with
  | none => .busError op.descriptor
  | some r => if rowCond c op.descriptor r then rowInstr op r else .busError op.descriptor

/-- The read and write branch of R76. -/
def decodeAccess (c : Config) (op : Operation) : Verdict :=
  let d := op.descriptor
  if accessSizeOf d = 0b11 then .invalid .sizeNone
  else if accessSizeOf d ≠ 0b10 ∨ (ofsOf d).extractLsb' 0 2 ≠ 0 then .operation (.busError d)
  else .operation (decodeMapped c op)

/-- The decoder (R76), line by line. Which reason an INVALID descriptor is given when several hold is the model's
(log entry 13). -/
def decode (c : Config) (op : Operation) : Verdict :=
  let d := op.descriptor
  if kindOf d = 0b11 then .invalid .kindNone
  else if resOf d ≠ 0 then .invalid .reservedBits
  else if kindOf d = 0b10 then decodeEvent d
  else decodeAccess c op

/-- The channel field of a descriptor: `OFS[7:4] = i + 2` (R74), so `OFS = 0x20 + 0x10 × i` plus the word's offset. -/
def channelBits (i : Channel) : Word := BitVec.ofNat 32 (0x10 * (i.val + 2))

/-- The COLOR index in place: `k << 2` (40_encoder.md R105). -/
def colorBits (k : ColorIx) : Word := BitVec.ofNat 32 (4 * k.toNat)

/-- The PULSE index in place: `j << 2` (40_encoder.md R107). -/
def pulseBits (j : PulseIx) : Word := BitVec.ofNat 32 (4 * j.toNat)

/-- The words of an instruction, from the same table. A read or an event has no data word and BUS_ERROR's is not
kept; it is 0 here (log entry 7). -/
def encode : Instr → Operation
  | .rdCtrl => ⟨rowMatch .rdCtrl, 0⟩
  | .rdStatus => ⟨rowMatch .rdStatus, 0⟩
  | .rdFrameLen => ⟨rowMatch .rdFrameLen, 0⟩
  | .rdTick => ⟨rowMatch .rdTick, 0⟩
  | .rdCfg0 => ⟨rowMatch .rdCfg0, 0⟩
  | .rdCfg1 => ⟨rowMatch .rdCfg1, 0⟩
  | .rdCfg2 => ⟨rowMatch .rdCfg2, 0⟩
  | .rdXfer => ⟨rowMatch .rdXfer, 0⟩
  | .rdLast i => ⟨rowMatch .rdLast ||| channelBits i, 0⟩
  | .rdPeriod i => ⟨rowMatch .rdPeriod ||| channelBits i, 0⟩
  | .rdCheck i => ⟨rowMatch .rdCheck ||| channelBits i, 0⟩
  | .rdColor k => ⟨rowMatch .rdColor ||| colorBits k, 0⟩
  | .rdPulse j => ⟨rowMatch .rdPulse ||| pulseBits j, 0⟩
  | .wrCtrl v => ⟨rowMatch .wrCtrl, v⟩
  | .wrStatus v => ⟨rowMatch .wrStatus, v⟩
  | .wrFrameLen v => ⟨rowMatch .wrFrameLen, v⟩
  | .wrTick v => ⟨rowMatch .wrTick, v⟩
  | .wrCfg0 v => ⟨rowMatch .wrCfg0, v⟩
  | .wrCfg1 v => ⟨rowMatch .wrCfg1, v⟩
  | .wrCfg2 v => ⟨rowMatch .wrCfg2, v⟩
  | .wrXfer v => ⟨rowMatch .wrXfer, v⟩
  | .wrLast i v => ⟨rowMatch .wrLast ||| channelBits i, v⟩
  | .wrPeriod i v => ⟨rowMatch .wrPeriod ||| channelBits i, v⟩
  | .wrCheck i v => ⟨rowMatch .wrCheck ||| channelBits i, v⟩
  | .wrColor k v => ⟨rowMatch .wrColor ||| colorBits k, v⟩
  | .wrPulse j v => ⟨rowMatch .wrPulse ||| pulseBits j, v⟩
  | .evTick => ⟨rowMatch .evTick, 0⟩
  | .evPeriod => ⟨rowMatch .evPeriod, 0⟩
  | .evComplete => ⟨rowMatch .evComplete, 0⟩
  | .busError d => ⟨d, 0⟩

/-- The operation whose bits are `w`, numbered as the opcode table numbers them: the descriptor is bits 31..0 and the
data word, where there is one, bits 63..32; every bit above `nbits` is 0 (log entry 18). -/
def operationOfBits (nbits w : Nat) : Operation :=
  ⟨BitVec.ofNat 32 (w % 2 ^ nbits), BitVec.ofNat 32 (w % 2 ^ nbits / 2 ^ 32)⟩

/-- The instruction the decoder reads from the bits `w`, under the configuration of `State.reset` (log entry 1). -/
def decodeTableWord (nbits w : Nat) : Option Instr :=
  match decode Config.ex (operationOfBits nbits w) with
  | .operation i => some i
  | .invalid _ => none

/-- A host read of `n = 2 ^ size` bytes at byte offset `ofs` (00_scope.md R10, 30_encoding.md R70, R72). -/
def memRead (ofs : Half) (size : BitVec 2) : Operation :=
  ⟨(0b00 : BitVec 2) ++ size ++ (0 : BitVec 12) ++ ofs, 0⟩

/-- A host write of `n = 2 ^ size` bytes at byte offset `ofs` (R10, R70, R72). -/
def memWrite (ofs : Half) (size : BitVec 2) (v : Word) : Operation :=
  ⟨(0b01 : BitVec 2) ++ size ++ (0 : BitVec 12) ++ ofs, v⟩

end Sys2Proof
end

