-- ==== Sys2Proof/Machine/State.lean ====
section
/-! DEFINITION. The state of the block (10_state.md R22) as plain data, with its observation channels (R42,
60_exceptions.md R181), the configuration it runs under (00_scope.md R6) and the inputs still to come
(20_memory.md R60); and the state after reset (70_reset_and_hazards.md R200, R201). -/

namespace Sys2Proof.Machine

/-- The faults of the model: there are none. The block never traps, interrupts or halts the host
(60_exceptions.md R180): a bus error is an error response, recorded in the state (R181), and the machine goes on. -/
inductive Fault where
  deriving DecidableEq, Repr

/-- Why the model gives an input no meaning. -/
inductive Refusal where
  /-- An instruction that has no meaning yet; raised by `exec`'s arms only. Safe: the model stops. -/
  | notModelled (mnemonic : String)
  /-- A descriptor that spells no operation (60_exceptions.md R180 code 4, 93_implementation_defined.md U15); raised by
  `step` on the decoder's verdict INVALID, with the descriptor as the recorded value. Safe: no bus can issue it. -/
  | invalidDescriptor (why : InvalidReason) (d : Word)
  deriving DecidableEq, Repr

/-- An entry of the fault record (R181): the recorded value is the descriptor (R180). -/
inductive FaultEntry where
  | busError (d : Word)
  deriving DecidableEq, Repr

/-- How a host access completed (20_memory.md R60: "with its data or its error"; 00_scope.md R10). -/
inductive Response where
  /-- A read, with the word it hands back. -/
  | data (v : Word)
  /-- A write that completed. -/
  | written
  /-- The error response of a bus error; no data (R181). -/
  | error
  deriving DecidableEq, Repr

/-- What can arrive between two steps: an operation of one of the agents (30_encoding.md R71), or the reset input
(70_reset_and_hazards.md R200). -/
inductive Input where
  | operation (op : Operation)
  | reset
  deriving DecidableEq, Repr

/-- The state. Each field names its rule; the last two fields are the model's own. -/
structure State where
  /-- The configuration constants (00_scope.md R6); not state of the block: no operation changes them (log entry 1). -/
  cfg : Config
  /-- `COLOR` (10_state.md R23). -/
  color : List Color
  /-- `PULSE` (R24). -/
  pulse : List Half
  /-- `FRAME_LEN` (R25). -/
  frameLen : Half
  /-- `PULSE_LEN` (R26). -/
  pulseLen : Half
  /-- `IDX` (R27). -/
  idx : Half
  /-- `CMP` (R28). -/
  cmp : Half
  /-- `BUSY` (R29). -/
  busy : Bool
  /-- `TC_PEND` (R30). -/
  tcPend : Bool
  /-- `OUT_EN` (R31). -/
  outEn : Bool
  /-- `ERR_BUSY` (R32). -/
  errBusy : Bool
  /-- `ERR_LEN` (R33). -/
  errLen : Bool
  /-- `TICK` (R34). -/
  tick : Word
  /-- `LAST[i]` (R35), channel 0 first. -/
  last : List Word
  /-- `LINE` (R42): the high time of each period emitted, oldest first. -/
  line : List Half
  /-- The fault record (60_exceptions.md R181), oldest first. -/
  faults : List FaultEntry
  /-- What the host's accesses got back, oldest first (log entry 8). -/
  responses : List Response
  /-- The inputs still to come, in the one total order of 20_memory.md R60 (log entry 4). -/
  schedule : List Input
  /-- How many draws of a free value have been taken (log entry 3). -/
  draws : Nat
  deriving DecidableEq, Repr

/-- The state that a reset leaves (70_reset_and_hazards.md R200, R201; the column "reset value" of 10_state.md R22),
for a configuration `c`, when the contents of the RAMs are draw number `n` (R23, R24, log entry 2). Nothing is
scheduled. -/
def State.resetWith (c : Config) (n : Nat) : State where
  cfg := c
  color := (List.range c.nLeds).map (Config.drawColor n)
  pulse := (List.range c.pulseCap).map (Config.drawPulse n)
  frameLen := BitVec.ofNat 16 c.nLeds
  pulseLen := 0
  idx := 0
  cmp := 0
  busy := false
  tcPend := false
  outEn := false
  errBusy := false
  errLen := false
  tick := 0
  last := List.replicate c.nTasks 0
  line := []
  faults := []
  responses := []
  schedule := []
  draws := n + 1

/-- The machine right after reset, under the example configuration (log entry 1). -/
def State.reset : State := State.resetWith Config.ex 0

/-- The canonical form of the storage arrays: each has exactly the entries its configuration gives it (10_state.md
R23, R24, R35), so equal contents are equal data. -/
abbrev State.RamWf (s : State) : Prop :=
  s.color.length = s.cfg.nLeds ∧ s.pulse.length = s.cfg.pulseCap ∧ s.last.length = s.cfg.nTasks

end Sys2Proof.Machine
end

