-- ==== Sys2Proof/Machine/Ops.lean ====
section
/-! DEFINITION. The named operations over the storage arrays, the registers, the bus and the line that the meanings
share; the bus error (60_exceptions.md R181); reset (70_reset_and_hazards.md R200); and the fetch of the next input
(20_memory.md R58, R60). -/

namespace Sys2Proof.Machine

/-! ### Storage arrays (10_state.md R23, R24, R35) -/

/-- `COLOR[k]`. Past the end of the array, which no operation of the spec reaches, it is 0 (log entry 10). -/
def readColor (s : State) (k : Nat) : Color := s.color.getD k 0

/-- `COLOR[k] <- v`. -/
def writeColor (k : Nat) (v : Color) (s : State) : State := { s with color := s.color.set k v }

/-- `PULSE[j]` (log entry 10 as for COLOR). -/
def readPulse (s : State) (j : Nat) : Half := s.pulse.getD j 0

/-- `LAST[i]` (log entry 10 as for COLOR). -/
def readLast (s : State) (i : Nat) : Word := s.last.getD i 0

/-- `LAST[i] <- v`. -/
def writeLast (i : Nat) (v : Word) (s : State) : State := { s with last := s.last.set i v }

/-- `TASK_PERIOD[i]`, a configuration constant (00_scope.md R9; log entry 10 as for COLOR). -/
def taskPeriodOf (c : Config) (i : Nat) : Word := c.taskPeriod.getD i 0

/-! ### What a host access gets back -/

/-- `return v` (00_scope.md R10): the word a read hands back. -/
def returnData (v : Word) (s : State) : State := { s with responses := s.responses ++ [.data v] }

/-- A write completes without error. -/
def completeWrite (s : State) : State := { s with responses := s.responses ++ [.written] }

/-- `raise BusError` (00_scope.md R10, 60_exceptions.md R181): an error response, no data, the descriptor appended to
the fault record, and nothing else. This is the block's whole "exception entry": nothing is saved and no mode
changes (R190). -/
def raiseBusError (d : Word) (s : State) : State :=
  { s with faults := s.faults ++ [.busError d], responses := s.responses ++ [.error] }

/-- A write to a read-only register: it completes without error and changes no state (20_memory.md R56). -/
def ignoreWrite (s : State) : State := completeWrite s

/-! ### The encoder (40_encoder.md R102) -/

/-- The entry of one bit: long for a 1, short for a 0. -/
def dutyOf (c : Config) (bit : Bool) : Half := if bit then c.dutyLong else c.dutyShort

/-- The 24 entries of a colour word, most significant bit first. -/
def colorEntries (c : Config) (w : Color) : List Half := (List.range 24).map fun b => dutyOf c (w.getLsbD (23 - b))

/-- The entries of a frame of `len` LEDs: LED 0 first, and the zero-duty terminator last. -/
def frameEntries (s : State) (len : Nat) : List Half :=
  (List.range len).flatMap (fun n => colorEntries s.cfg (readColor s n)) ++ [0]

/-- `encode(L)` (R102): entries `0 .. 24L` of PULSE are written, the others keep what they held (R112), and
`PULSE_LEN <- 24L + 1`. -/
def encodeFrame (len : Nat) (s : State) : State :=
  { s with pulse := frameEntries s len ++ s.pulse.drop (24 * len + 1), pulseLen := BitVec.ofNat 16 (24 * len + 1) }

/-! ### The transmitter's steps -/

/-- Arming, then the start of the copy engine and the output (41_transmitter.md R123 items 2 and 3). -/
def arm (s : State) : State := { s with idx := 0, tcPend := false, busy := true, outEn := true }

/-- The copy engine copies the next entry to `CMP`, and signals exhaustion with the last one (R127). -/
def copyEntry (s : State) : State :=
  { s with
    cmp := readPulse s s.idx.toNat
    idx := s.idx + 1
    tcPend := if s.idx + 1 = s.pulseLen then true else s.tcPend }

/-- `LINE.append(CMP)` (R128). -/
def appendPeriod (s : State) : State := { s with line := s.line ++ [s.cmp] }

/-- The completion handler's writes (R129). -/
def finishFrame (s : State) : State := { s with outEn := false, busy := false, tcPend := false }

/-- `FRAME_LEN <- v` (40_encoder.md R108). -/
def setFrameLen (v : Half) (s : State) : State := { s with frameLen := v }

/-- `TICK <- v` (42_tick_timestamp.md R140). -/
def setTick (v : Word) (s : State) : State := { s with tick := v }

/-! ### Reset and fetch -/

/-- The reset input (70_reset_and_hazards.md R200, R202): every piece of state takes its reset value whatever the
phase, the RAMs a fresh draw; the configuration stays, and so do the inputs still to come (log entry 6). -/
def assertReset (s : State) : State :=
  { State.resetWith s.cfg s.draws with schedule := s.schedule }

/-- The internal event of a number of 30_encoding.md R73. -/
def eventOf (n : Fin 3) : Instr :=
  match n with
  | 0 => .evTick
  | 1 => .evPeriod
  | 2 => .evComplete

/-- What comes next, and the state it finds. -/
inductive Fetched where
  /-- An operation. -/
  | run (i : Instr) (s : State)
  /-- The reset input. -/
  | restart (s : State)
  /-- A descriptor that spells no operation. -/
  | invalid (why : InvalidReason) (d : Word)
  deriving DecidableEq, Repr

/-- The state without its next input. -/
def popInput (s : State) : State := { s with schedule := s.schedule.tail }

/-- The state with one more draw taken. -/
def takeDraw (s : State) : State := { s with draws := s.draws + 1 }

/-- The decoder's verdict on an operation that the state `s` finds (30_encoding.md R76). -/
def fetchOperation (op : Operation) (s : State) : Fetched :=
  match decode s.cfg op with
  | .operation i => .run i s
  | .invalid why => .invalid why op.descriptor

/-- The next input of the total order (20_memory.md R60). With nothing scheduled the host is silent and the block's own
agents go on: the event that comes next is a free value (60_exceptions.md R188, log entry 5). -/
def fetch (s : State) : Fetched :=
  match s.schedule with
  | [] => .run (eventOf (Config.drawEvent s.draws)) (takeDraw s)
  | .reset :: _ => .restart (popInput s)
  | .operation op :: _ => fetchOperation op (popInput s)

/-- `s` with an operation placed where `fetch` finds it next, ahead of what was scheduled (log entry 4). -/
def pushOperation (op : Operation) (s : State) : State := { s with schedule := .operation op :: s.schedule }

end Sys2Proof.Machine
end

