-- ==== Sys2Proof/Machine/Operands.lean ====
section
/-! DEFINITION. The operands of the operations: the bits of the data word a write uses (30_encoding.md R75), and the
indices' bounds, past which the access is a bus error with the operation's own descriptor (20_memory.md R54). -/

namespace Sys2Proof.Machine

/-- `D[0]` of a CTRL write, START (10_state.md R36). -/
def startBit (data : Word) : Bool := data.getLsbD 0

/-- `D[1]` of a CTRL write, ERR_CLR (R36). -/
def errClrBit (data : Word) : Bool := data.getLsbD 1

/-- `D[15:0]`, what FRAME_LEN takes (40_encoder.md R108). -/
def frameLenBits (data : Word) : Half := data.extractLsb' 0 16

/-- `D[23:0]`, what COLOR takes; `D[31:24]` is discarded (R105). -/
def colorOfData (data : Word) : Color := data.extractLsb' 0 24

/-- `zext_32` of a colour word (R106). -/
def zextColor (w : Color) : Word := w.setWidth 32

/-- `zext_32` of a 16-bit value (R107, R109). -/
def zextHalf (h : Half) : Word := h.setWidth 32

/-- `{hi, lo}` of two 16-bit values (00_scope.md R8). -/
def concatHalves (hi lo : Half) : Word := hi ++ lo

/-- Byte lane `b` of a register: bits `8b + 7 .. 8b` (20_memory.md R51). -/
def byteLane (v : Word) (b : Fin 4) : BitVec 8 := v.extractLsb' (8 * b.val) 8

/-- `i < N_TASKS` (20_memory.md R54). -/
def channelExists (s : State) (i : Channel) : Bool := decide (i.val < s.cfg.nTasks)

/-- `k < N_LEDS` (R54). -/
def colorExists (s : State) (k : ColorIx) : Bool := decide (k.toNat < s.cfg.nLeds)

/-- `j < PULSE_CAP` (R54). -/
def pulseExists (s : State) (j : PulseIx) : Bool := decide (j.toNat < s.cfg.pulseCap)

/-- An indexed access: its effect if the index exists, and BusError with the access's own descriptor if it does not
("Exceptions" of R105 to R110 and 42_tick_timestamp.md R143 to R148). The decoder answers BUS_ERROR for such an access
before any effect (60_exceptions.md R189), so this is the same error by either way (log entry 9). -/
def onIndexed (i : Instr) (present : Bool) (effect : State → State) (s : State) : State :=
  if present then effect s else raiseBusError (encode i).descriptor s

end Sys2Proof.Machine
end

