-- ==== Sys2Proof/Machine/Flags.lean ====
section
/-! DEFINITION. The status bits: the words that show them (10_state.md R37, R39, R40), the phase (R38), and the CTRL
command that sets and clears them (41_transmitter.md R121 to R126). -/

namespace Sys2Proof.Machine

/-- `STATUS = {27'b0, ERR_LEN, ERR_BUSY, OUT_EN, TC_PEND, BUSY}` (41_transmitter.md R131). -/
def statusWord (s : State) : Word :=
  (0 : BitVec 27) ++ BitVec.ofBool s.errLen ++ BitVec.ofBool s.errBusy ++ BitVec.ofBool s.outEn ++
    BitVec.ofBool s.tcPend ++ BitVec.ofBool s.busy

/-- `XFER = {PULSE_LEN, IDX}` (R133). -/
def xferWord (s : State) : Word := concatHalves s.pulseLen s.idx

/-- `CFG0 = {12'b0, N_TASKS[3:0], N_LEDS[15:0]}` (43_config_and_bus.md R160). -/
def cfg0Word (c : Config) : Word := (0 : BitVec 12) ++ BitVec.ofNat 4 c.nTasks ++ BitVec.ofNat 16 c.nLeds

/-- `CFG1 = {DUTY_LONG, DUTY_SHORT}` (R161). -/
def cfg1Word (c : Config) : Word := concatHalves c.dutyLong c.dutyShort

/-- `CFG2 = {16'b0, PWM_PERIOD}` (R162). -/
def cfg2Word (c : Config) : Word := concatHalves 0 c.pwmPeriod

/-- The transmitter's phase (10_state.md R38). -/
inductive Phase where
  | idle
  | transmitting
  | draining
  deriving DecidableEq, Repr

/-- The phase is a function of the state, not separate state (R38). -/
def phase (s : State) : Phase := if s.busy then (if s.tcPend then .draining else .transmitting) else .idle

/-- ERR_CLR: the two sticky bits fall (41_transmitter.md R126). -/
def clearErrors (s : State) : State := { s with errBusy := false, errLen := false }

/-- A START found busy (R124, 60_exceptions.md R182). -/
def flagBusy (s : State) : State := { s with errBusy := true }

/-- A START found too long (R125, 60_exceptions.md R183). -/
def flagLen (s : State) : State := { s with errLen := true }

/-- The condition of an accepted START (R122). -/
def startAccepted (s : State) : Bool := !s.busy && decide (s.frameLen.toNat ≤ s.cfg.nLeds)

/-- An accepted START: Encoding, then Arming, then the output, in one step (R123). -/
def acceptStart (s : State) : State := arm (encodeFrame s.frameLen.toNat s)

/-- START (R121): busy is tested before the length (60_exceptions.md R189). -/
def startFrame (s : State) : State :=
  if s.busy then flagBusy s
  else if s.frameLen.toNat > s.cfg.nLeds then flagLen s
  else acceptStart s

/-- The command of a CTRL write (R121): ERR_CLR acts first, then START. -/
def command (data : Word) (s : State) : State :=
  let s₁ := if errClrBit data then clearErrors s else s
  if startBit data then startFrame s₁ else s₁

end Sys2Proof.Machine
end

