-- ==== Sys2Proof/Machine/BusErrors.lean ====
section
/-! DEFINITION. The bus error (60_exceptions.md R180, R181). -/

namespace Sys2Proof.Machine

/-- BUS_ERROR: an error response; `BusError(d)` joins the fault record and nothing else changes. The machine goes on: a
NEXT state (R181, 95_test_vectors.md P5; log entry 7). -/
def execBusError (d : Word) (s : State) : Host.Outcome State Fault Refusal :=
  .next (raiseBusError d s)

end Sys2Proof.Machine
end

