-- ==== Sys2Proof/Machine/Configuration.lean ====
section
/-! DEFINITION. The configuration family (43_config_and_bus.md R160 to R165). -/

namespace Sys2Proof.Machine

/-- RD_CFG0 (R160). -/
def execRdCfg0 (s : State) : Host.Outcome State Fault Refusal :=
  .next (returnData (cfg0Word s.cfg) s)

/-- RD_CFG1 (R161). -/
def execRdCfg1 (s : State) : Host.Outcome State Fault Refusal :=
  .next (returnData (cfg1Word s.cfg) s)

/-- RD_CFG2 (R162). -/
def execRdCfg2 (s : State) : Host.Outcome State Fault Refusal :=
  .next (returnData (cfg2Word s.cfg) s)

/-- WR_CFG0: write-ignored (R163). -/
def execWrCfg0 (_data : Word) (s : State) : Host.Outcome State Fault Refusal :=
  .next (ignoreWrite s)

/-- WR_CFG1: write-ignored (R164). -/
def execWrCfg1 (_data : Word) (s : State) : Host.Outcome State Fault Refusal :=
  .next (ignoreWrite s)

/-- WR_CFG2: write-ignored (R165). -/
def execWrCfg2 (_data : Word) (s : State) : Host.Outcome State Fault Refusal :=
  .next (ignoreWrite s)

end Sys2Proof.Machine
end

