-- ==== Sys2Proof/Machine/Encoder.lean ====
section
/-! DEFINITION. The encoder family (40_encoder.md R105 to R110). -/

namespace Sys2Proof.Machine

/-- RD_COLOR: `return zext_32(COLOR[k])` (R106). -/
def execRdColor (k : ColorIx) (s : State) : Host.Outcome State Fault Refusal :=
  .next (onIndexed (.rdColor k) (colorExists s k) (returnData (zextColor (readColor s k.toNat))) s)

/-- WR_COLOR: `COLOR[k] <- D[23:0]`, in every phase (R105). -/
def execWrColor (k : ColorIx) (data : Word) (s : State) : Host.Outcome State Fault Refusal :=
  .next (onIndexed (.wrColor k data) (colorExists s k)
    (fun t => completeWrite (writeColor k.toNat (colorOfData data) t)) s)

/-- RD_PULSE: `return zext_32(PULSE[j])`, in every phase (R107). -/
def execRdPulse (j : PulseIx) (s : State) : Host.Outcome State Fault Refusal :=
  .next (onIndexed (.rdPulse j) (pulseExists s j) (returnData (zextHalf (readPulse s j.toNat))) s)

/-- WR_PULSE: write-ignored, in every phase (R110). -/
def execWrPulse (j : PulseIx) (data : Word) (s : State) : Host.Outcome State Fault Refusal :=
  .next (onIndexed (.wrPulse j data) (pulseExists s j) ignoreWrite s)

/-- RD_FRAME_LEN: `return zext_32(FRAME_LEN)` (R109). -/
def execRdFrameLen (s : State) : Host.Outcome State Fault Refusal :=
  .next (returnData (zextHalf s.frameLen) s)

/-- WR_FRAME_LEN: `FRAME_LEN <- D[15:0]`; any value is stored (R108). -/
def execWrFrameLen (data : Word) (s : State) : Host.Outcome State Fault Refusal :=
  .next (completeWrite (setFrameLen (frameLenBits data) s))

end Sys2Proof.Machine
end

