-- ==== Sys2Proof/Machine/TickTimestamp.lean ====
section
/-! DEFINITION. The tick-and-timestamp family (42_tick_timestamp.md R140 to R148). -/

namespace Sys2Proof.Machine

/-- EV_TICK: `TICK <- (TICK + 1) mod 2^32` (R140). -/
def execEvTick (s : State) : Host.Outcome State Fault Refusal :=
  .next (setTick (s.tick + 1) s)

/-- RD_TICK: `return TICK` (R141). -/
def execRdTick (s : State) : Host.Outcome State Fault Refusal :=
  .next (returnData s.tick s)

/-- WR_TICK: write-ignored (R142). -/
def execWrTick (_data : Word) (s : State) : Host.Outcome State Fault Refusal :=
  .next (ignoreWrite s)

/-- RD_LAST: `return LAST[i]` (R143). -/
def execRdLast (i : Channel) (s : State) : Host.Outcome State Fault Refusal :=
  .next (onIndexed (.rdLast i) (channelExists s i) (returnData (readLast s i.val)) s)

/-- WR_LAST: write-ignored (R144). -/
def execWrLast (i : Channel) (data : Word) (s : State) : Host.Outcome State Fault Refusal :=
  .next (onIndexed (.wrLast i data) (channelExists s i) ignoreWrite s)

/-- RD_PERIOD: `return TASK_PERIOD[i]` (R145). -/
def execRdPeriod (i : Channel) (s : State) : Host.Outcome State Fault Refusal :=
  .next (onIndexed (.rdPeriod i) (channelExists s i) (returnData (taskPeriodOf s.cfg i.val)) s)

/-- WR_PERIOD: write-ignored (R146). -/
def execWrPeriod (i : Channel) (data : Word) (s : State) : Host.Outcome State Fault Refusal :=
  .next (onIndexed (.wrPeriod i data) (channelExists s i) ignoreWrite s)

/-- `elapsed = (TICK - LAST[i]) mod 2^32`, an unsigned difference (R147, R149). -/
def elapsed (s : State) (i : Nat) : Word := s.tick - readLast s i

/-- FIRED: the elapsed time has reached the period, an unsigned compare (R147). -/
def fired (s : State) (i : Nat) : Bool := decide ((taskPeriodOf s.cfg i).toNat ≤ (elapsed s i).toNat)

/-- The check and re-arm of an existing channel (R147). -/
def checkChannel (i : Nat) (s : State) : State :=
  if fired s i then returnData 1 (writeLast i s.tick s) else returnData 0 s

/-- RD_CHECK: test whether the interval of channel `i` has elapsed, and if so re-arm it (R147). -/
def execRdCheck (i : Channel) (s : State) : Host.Outcome State Fault Refusal :=
  .next (onIndexed (.rdCheck i) (channelExists s i) (checkChannel i.val) s)

/-- WR_CHECK: write-ignored; no check, no re-arm (R148). -/
def execWrCheck (i : Channel) (data : Word) (s : State) : Host.Outcome State Fault Refusal :=
  .next (onIndexed (.wrCheck i data) (channelExists s i) ignoreWrite s)

end Sys2Proof.Machine
end

