-- ==== Sys2Proof/Machine/Transmitter.lean ====
section
/-! DEFINITION. The transmitter family (41_transmitter.md R121 to R135). -/

namespace Sys2Proof.Machine

/-- WR_CTRL: ERR_CLR, then START (R121). -/
def execWrCtrl (data : Word) (s : State) : Host.Outcome State Fault Refusal :=
  .next (completeWrite (command data s))

/-- RD_CTRL: returns 0 (R132). -/
def execRdCtrl (s : State) : Host.Outcome State Fault Refusal :=
  .next (returnData 0 s)

/-- RD_STATUS: the status bits; a read clears nothing (R131). -/
def execRdStatus (s : State) : Host.Outcome State Fault Refusal :=
  .next (returnData (statusWord s) s)

/-- WR_STATUS: write-ignored (R134). -/
def execWrStatus (_data : Word) (s : State) : Host.Outcome State Fault Refusal :=
  .next (ignoreWrite s)

/-- RD_XFER: `{PULSE_LEN, IDX}` (R133). -/
def execRdXfer (s : State) : Host.Outcome State Fault Refusal :=
  .next (returnData (xferWord s) s)

/-- WR_XFER: write-ignored (R135). -/
def execWrXfer (_data : Word) (s : State) : Host.Outcome State Fault Refusal :=
  .next (ignoreWrite s)

/-- EV_PERIOD: nothing while `OUT_EN = 0`; else the next entry is copied, if one is left, and one period of high time
`CMP` goes out (R127). -/
def execEvPeriod (s : State) : Host.Outcome State Fault Refusal :=
  .next (if s.outEn then appendPeriod (if s.idx.toNat < s.pulseLen.toNat then copyEntry s else s) else s)

/-- EV_COMPLETE: a spurious notification is ignored; else the output stops and BUSY and TC_PEND fall (R129, R130). -/
def execEvComplete (s : State) : Host.Outcome State Fault Refusal :=
  .next (if s.tcPend then finishFrame s else s)

end Sys2Proof.Machine
end

