-- ==== Sys2Proof/Machine/Dispatch.lean ====
section
/-! DEFINITION. One arm per constructor of Instr, each one call of its meaning. -/

namespace Sys2Proof.Machine

def exec (i : Instr) (s : State) : Host.Outcome State Fault Refusal :=
  match i with
  | .rdCtrl => Sys2Proof.Machine.execRdCtrl s
  | .rdStatus => Sys2Proof.Machine.execRdStatus s
  | .rdFrameLen => Sys2Proof.Machine.execRdFrameLen s
  | .rdTick => Sys2Proof.Machine.execRdTick s
  | .rdCfg0 => Sys2Proof.Machine.execRdCfg0 s
  | .rdCfg1 => Sys2Proof.Machine.execRdCfg1 s
  | .rdCfg2 => Sys2Proof.Machine.execRdCfg2 s
  | .rdXfer => Sys2Proof.Machine.execRdXfer s
  | .rdLast ch => Sys2Proof.Machine.execRdLast ch s
  | .rdPeriod ch => Sys2Proof.Machine.execRdPeriod ch s
  | .rdCheck ch => Sys2Proof.Machine.execRdCheck ch s
  | .rdColor k => Sys2Proof.Machine.execRdColor k s
  | .rdPulse j => Sys2Proof.Machine.execRdPulse j s
  | .wrCtrl v => Sys2Proof.Machine.execWrCtrl v s
  | .wrStatus v => Sys2Proof.Machine.execWrStatus v s
  | .wrFrameLen v => Sys2Proof.Machine.execWrFrameLen v s
  | .wrTick v => Sys2Proof.Machine.execWrTick v s
  | .wrCfg0 v => Sys2Proof.Machine.execWrCfg0 v s
  | .wrCfg1 v => Sys2Proof.Machine.execWrCfg1 v s
  | .wrCfg2 v => Sys2Proof.Machine.execWrCfg2 v s
  | .wrXfer v => Sys2Proof.Machine.execWrXfer v s
  | .wrLast ch v => Sys2Proof.Machine.execWrLast ch v s
  | .wrPeriod ch v => Sys2Proof.Machine.execWrPeriod ch v s
  | .wrCheck ch v => Sys2Proof.Machine.execWrCheck ch v s
  | .wrColor k v => Sys2Proof.Machine.execWrColor k v s
  | .wrPulse j v => Sys2Proof.Machine.execWrPulse j v s
  | .evTick => Sys2Proof.Machine.execEvTick s
  | .evPeriod => Sys2Proof.Machine.execEvPeriod s
  | .evComplete => Sys2Proof.Machine.execEvComplete s
  | .busError d => Sys2Proof.Machine.execBusError d s

end Sys2Proof.Machine
end

