-- ==== Sys2Proof/Machine/Step.lean ====
section
/-! DEFINITION. One step of the machine: the next input of the total order, run to its end (20_memory.md R58). -/

namespace Sys2Proof.Machine

/-- A step: an operation is decoded and executed, the reset input leaves the reset state, and a descriptor that spells
no operation is refused by name (30_encoding.md R76). -/
def step (s : State) : Host.Outcome State Fault Refusal :=
  match fetch s with
  | .run i t => exec i t
  | .restart t => .next (assertReset t)
  | .invalid why d => .refused (.invalidDescriptor why d)

/-- `s` with the operation of the bits `w` placed where `step` fetches its next input. -/
def State.withFetchWord (s : State) (nbits w : Nat) : State := pushOperation (operationOfBits nbits w) s

end Sys2Proof.Machine
end

