-- ==== Sys2Proof/Machine/HostProgram.lean ====
section
/-! DEFINITION. The host beside the block, as far as the spec gives it a notation: the text names of registers
(30_encoding.md R81), host programs (R82), pseudo-instructions (R83) and schedules (R84). The host is no part of `State`
(10_state.md R20): it acts on the block only by operations, each run by `step`. -/

namespace Sys2Proof.Machine

/-! ### Registers by name (R81) -/

/-- `<reg>` of R81. -/
inductive Reg where
  | ctrl | status | frameLen | tick | cfg0 | cfg1 | cfg2 | xfer
  | last (i : Nat) | period (i : Nat) | check (i : Nat)
  | color (k : Nat) | pulse (j : Nat)
  deriving DecidableEq, Repr

/-- The offset of a register by its name (20_memory.md R53). DESIGN CHOICE (log entry 20): the spec gives no offset to
an index that does not fit its field (LAST, PERIOD and CHECK from 14 on, COLOR from 4096, PULSE from 8192); the model
carries the sum of R53 on, and the access is whatever the sum names. -/
def offsetOf : Reg → Nat
  | .ctrl => 0x0000
  | .status => 0x0004
  | .frameLen => 0x0008
  | .tick => 0x000C
  | .cfg0 => 0x0010
  | .cfg1 => 0x0014
  | .cfg2 => 0x0018
  | .xfer => 0x001C
  | .last i => 0x0020 + 0x10 * i
  | .period i => 0x0024 + 0x10 * i
  | .check i => 0x0028 + 0x10 * i
  | .color k => 0x4000 + 4 * k
  | .pulse j => 0x8000 + 4 * j

/-- `RD <reg>` (R81). DESIGN CHOICE (log entry 20): an offset that does not fit OFS is taken mod 2^16. -/
def readReg (r : Reg) : Operation := memRead (BitVec.ofNat 16 (offsetOf r)) 0b10

/-- `WR <reg>, <value>` (R81). DESIGN CHOICE (log entry 20): an offset that does not fit OFS is taken mod 2^16. -/
def writeReg (r : Reg) (v : Word) : Operation := memWrite (BitVec.ofNat 16 (offsetOf r)) 0b10 v

/-! ### Host programs (R82) -/

/-- Expressions over host variables, numbered from 0; a condition holds when its value is not 0. The spec uses these
operators and names no others (log entry 19). -/
inductive Expr where
  | lit (n : Int)
  | var (x : Nat)
  | add (a b : Expr)
  | sub (a b : Expr)
  | modulo (a b : Expr)
  | land (a b : Expr)
  | shiftRight (a : Expr) (n : Nat)
  | less (a b : Expr)
  | equal (a b : Expr)
  deriving DecidableEq, Repr

/-- Host variables are unbounded integers (R82); one that nothing has set is 0 (log entry 19). DESIGN CHOICE (log entry
21): R82 gives the operators no meaning on every integer. A number mod 0 is that number, and mod any other number it is
the remainder that is not negative; `&` takes a negative integer as its two's complement without end; `>>` divides by
the power of two and rounds down; a comparison is 1 where it holds and 0 where it does not. -/
def evalExpr (vars : List Int) : Expr → Int
  | .lit n => n
  | .var x => vars.getD x 0
  | .add a b => evalExpr vars a + evalExpr vars b
  | .sub a b => evalExpr vars a - evalExpr vars b
  | .modulo a b => evalExpr vars a % evalExpr vars b
  | .land a b => Int.land (evalExpr vars a) (evalExpr vars b)
  | .shiftRight a n => evalExpr vars a / 2 ^ n
  | .less a b => if evalExpr vars a < evalExpr vars b then 1 else 0
  | .equal a b => if evalExpr vars a = evalExpr vars b then 1 else 0

/-- The statements of R82; a label is the index it stands at. -/
inductive Stmt where
  /-- `v := RD <reg>`. -/
  | read (x : Nat) (r : Reg)
  /-- `WR <reg>, <expr>`. -/
  | write (r : Reg) (e : Expr)
  /-- `if <cond> goto <label>`. -/
  | branch (cond : Expr) (target : Nat)
  /-- `goto <label>`. -/
  | jump (target : Nat)
  /-- `v := <expr>`. -/
  | assign (x : Nat) (e : Expr)
  /-- `halt`. -/
  | halt
  deriving DecidableEq, Repr

/-- The host's own state (R82): its statement index, its variables, and whether it has executed `halt`. -/
structure HostState where
  /-- The statement index `pc`. -/
  pc : Nat
  /-- The host variables. -/
  vars : List Int
  /-- `halt` has been executed. -/
  halted : Bool
  deriving DecidableEq, Repr

/-- A program's start: statement 0. -/
def hostStart : HostState := { pc := 0, vars := [], halted := false }

/-- `v := n`, and on to the next statement. -/
def setVar (x : Nat) (n : Int) (h : HostState) : HostState :=
  { h with pc := h.pc + 1, vars := (h.vars ++ List.replicate (x + 1 - h.vars.length) 0).set x n }

/-- On to the next statement: `pc <- pc + 1`, which every statement other than the jumps does (R82). -/
def nextStmt (h : HostState) : HostState := { h with pc := h.pc + 1 }

/-- What a read hands the host: the data goes to its variable; an error hands it none, and the host goes on
(60_exceptions.md R181 leaves its reaction to it; log entry 19). -/
def receive (x : Nat) (t : State) (h : HostState) : HostState :=
  match t.responses.getLast? with
  | some (.data v) => setVar x v.toNat h
  | some .written => nextStmt h
  | some .error => nextStmt h
  | none => nextStmt h

/-- A host access, issued to the block ahead of what was scheduled, and what the host makes of its answer. -/
def issue (op : Operation) (after : State → HostState) (s : State) :
    Host.Outcome (HostState × State) Fault Refusal :=
  match step (pushOperation op s) with
  | .next t => .next (after t, t)
  | .fault r => .fault r
  | .refused r => .refused r

/-- One statement of a host program. Only RD and WR are block operations; the others take no block step (R82). A
program that has halted, or has no statement at its `pc`, takes no step (log entry 19). -/
def hostStep (program : List Stmt) (h : HostState) (s : State) : Host.Outcome (HostState × State) Fault Refusal :=
  if h.halted then .next (h, s)
  else
    match program[h.pc]? with
    | none => .next (h, s)
    | some (.read x r) => issue (readReg r) (fun t => receive x t h) s
    | some (.write r e) => issue (writeReg r (BitVec.ofInt 32 (evalExpr h.vars e))) (fun _ => nextStmt h) s
    | some (.branch cond target) =>
      .next (if evalExpr h.vars cond ≠ 0 then { h with pc := target } else nextStmt h, s)
    | some (.jump target) => .next ({ h with pc := target }, s)
    | some (.assign x e) => .next (setVar x (evalExpr h.vars e) h, s)
    | some .halt => .next ({ nextStmt h with halted := true }, s)

/-! ### Schedules (R84) -/

/-- One entry of a schedule: the host's next statement, or an event by its number (R73). -/
inductive Turn where
  | host
  | event (n : Fin 3)
  deriving DecidableEq, Repr

/-- One entry of a schedule, run. -/
def takeTurn (program : List Stmt) (turn : Turn) (h : HostState) (s : State) :
    Host.Outcome (HostState × State) Fault Refusal :=
  match turn with
  | .host => hostStep program h s
  | .event n => issue (encode (eventOf n)) (fun _ => h) s

/-- A schedule, run from its top (R84). -/
def runSchedule (program : List Stmt) : List Turn → HostState → State → Host.Outcome (HostState × State) Fault Refusal
  | [], h, s => .next (h, s)
  | turn :: turns, h, s =>
    match takeTurn program turn h s with
    | .next (h', s') => runSchedule program turns h' s'
    | .fault r => .fault r
    | .refused r => .refused r

/-! ### Pseudo-instructions (R83) -/

/-- `START`. -/
def startStmt : List Stmt := [.write .ctrl (.lit 1)]

/-- `ERRCLR`. -/
def errClrStmt : List Stmt := [.write .ctrl (.lit 2)]

/-- `ERRCLR_START`. -/
def errClrStartStmt : List Stmt := [.write .ctrl (.lit 3)]

/-- `WAIT_IDLE`, standing at `index` and polling into variable `x`. -/
def waitIdleStmts (index x : Nat) : List Stmt :=
  [.read x .status, .branch (.land (.var x) (.lit 1)) index]

/-- `WRITE_FRAME`. -/
def writeFrameStmts (index x : Nat) : List Stmt := waitIdleStmts index x ++ startStmt

/-- `TRY_WRITE_FRAME`: `ok` is 0 on refusal. -/
def tryWriteFrameStmts (x ok : Nat) : List Stmt :=
  errClrStartStmt ++ [.read x .status, .assign ok (.equal (.land (.shiftRight (.var x) 3) (.lit 3)) (.lit 0))]

/-- `LOAD_FRAME c_0 .. c_{L-1}`. -/
def loadFrameStmts (colors : List Color) : List Stmt :=
  ((List.range colors.length).map fun k => .write (.color k) (.lit (colors.getD k 0).toNat)) ++
    [.write .frameLen (.lit colors.length)]

/-- `CHECK i -> f`. -/
def checkStmts (i f : Nat) : List Stmt := [.read f (.check i)]

end Sys2Proof.Machine
end

