-- ==== Sys2Proof/Safety.lean ====
section
/-! DEFINITION. What counts as a good state and a good run, in the terms the statements use: the invariants of
10_state.md R42 to R45, the inverse of the encoding (40_encoder.md R101, R104), the error codes and their limit of one
an operation (60_exceptions.md R180, R189), runs of operations and fairness (R186), and the end of a run
(70_reset_and_hazards.md R213). -/

namespace Sys2Proof.Safety

open Sys2Proof.Machine

/-! ### Invariants -/

/-- `BUSY = 0` implies `OUT_EN = 0`, `TC_PEND = 0` and `CMP = 0` (10_state.md R43). -/
abbrev IdleInv (s : State) : Prop := s.busy = false → s.outEn = false ∧ s.tcPend = false ∧ s.cmp = 0

/-- What `BUSY = 1` implies (R44). -/
abbrev BusyInv (s : State) : Prop :=
  s.busy = true →
    s.outEn = true ∧ 1 ≤ s.pulseLen.toNat ∧ s.pulseLen.toNat ≤ s.cfg.pulseCap ∧ s.pulseLen.toNat % 24 = 1 ∧
      s.idx.toNat ≤ s.pulseLen.toNat ∧ (s.tcPend = true ↔ s.idx = s.pulseLen) ∧
      (1 ≤ s.idx.toNat → s.cmp = readPulse s (s.idx.toNat - 1))

/-- With `PULSE_LEN ≥ 1` the final valid entry is the terminator and every entry below it is short or long (R45);
`PULSE_LEN` never passes the RAM. -/
abbrev PulseInv (s : State) : Prop :=
  s.pulseLen.toNat ≤ s.cfg.pulseCap ∧
    (1 ≤ s.pulseLen.toNat →
      readPulse s (s.pulseLen.toNat - 1) = 0 ∧
        ∀ p, p < s.pulseLen.toNat - 1 → readPulse s p = s.cfg.dutyShort ∨ readPulse s p = s.cfg.dutyLong)

/-- Every period on the line has a high time below `PWM_PERIOD` (R42). -/
abbrev LineInv (s : State) : Prop := ∀ h ∈ s.line, h.toNat < s.cfg.pwmPeriod.toNat

/-- The machine's invariant: a valid configuration (00_scope.md R6), arrays of its lengths, and R42 to R45. -/
abbrev BlockInv (s : State) : Prop :=
  s.cfg.Valid ∧ s.RamWf ∧ IdleInv s ∧ BusyInv s ∧ PulseInv s ∧ LineInv s

/-! ### The encoding, read back -/

/-- `bit(h)` of 40_encoder.md R104: 1 for `DUTY_LONG`, else 0. -/
def bitOf (c : Config) (h : Half) : Nat := if h = c.dutyLong then 1 else 0

/-- The sum of R104 over the 24 entries from entry `24 n` of PULSE. -/
def decodedColor (s : State) (n : Nat) : Nat :=
  ((List.range 24).map fun b => bitOf s.cfg (readPulse s (24 * n + b)) * 2 ^ (23 - b)).sum

/-- `pack(c2, c1, c0)`, the host function of R101. -/
def pack (c₂ c₁ c₀ : Nat) : Color := BitVec.ofNat 8 c₂ ++ BitVec.ofNat 8 c₁ ++ BitVec.ofNat 8 c₀

/-- The levels of one period of high time `h`: high for `h` counts, then low for `PWM_PERIOD - h`
(41_transmitter.md R128). -/
def periodLevels (c : Config) (h : Half) : List Bool :=
  List.replicate h.toNat true ++ List.replicate (c.pwmPeriod.toNat - h.toNat) false

/-! ### Error codes (60_exceptions.md R180) -/

/-- The conditions of R180; "those codes are the whole list". -/
inductive ErrorCondition where
  | busError
  | errBusy
  | errLen
  | invalid
  | hang
  deriving DecidableEq, Repr

/-- The column "code" of R180. -/
def errorCode : ErrorCondition → Nat
  | .busError => 1
  | .errBusy => 2
  | .errLen => 3
  | .invalid => 4
  | .hang => 5

/-- The conditions that the operation `i` meets when the state `s` finds it (R180, with the order of tests of R189). -/
def conditionsOf (i : Instr) (s : State) : List ErrorCondition :=
  match i with
  | .busError _ => [.busError]
  | .wrCtrl data =>
    if startBit data then
      if s.busy then [.errBusy] else if s.frameLen.toNat > s.cfg.nLeds then [.errLen] else []
    else []
  | i => if i.wf s.cfg then [] else [.busError]

/-! ### The words of the statements -/

/-- `s` after an access that got the answer `r` and changed nothing else. -/
abbrev answered (s : State) (r : Response) : State := { s with responses := s.responses ++ [r] }

/-- `s` after the bus error of descriptor `d` (60_exceptions.md R181). -/
abbrev errored (s : State) (d : Word) : State :=
  { s with faults := s.faults ++ [.busError d], responses := s.responses ++ [.error] }

/-- The host's reads (30_encoding.md R80). -/
def isRead : Instr → Bool
  | .rdCtrl | .rdStatus | .rdFrameLen | .rdTick | .rdCfg0 | .rdCfg1 | .rdCfg2 | .rdXfer => true
  | .rdLast _ | .rdPeriod _ | .rdCheck _ | .rdColor _ | .rdPulse _ => true
  | _ => false

/-- The data word of a host write (30_encoding.md R80). -/
def writeData : Instr → Option Word
  | .wrCtrl v | .wrStatus v | .wrFrameLen v | .wrTick v | .wrCfg0 v | .wrCfg1 v | .wrCfg2 v | .wrXfer v => some v
  | .wrLast _ v | .wrPeriod _ v | .wrCheck _ v | .wrColor _ v | .wrPulse _ v => some v
  | _ => none

/-- The frame of `len` LEDs that the colours of `s` encode to, entry by entry (40_encoder.md R103). -/
def frameOf (s : State) (len : Nat) : List Half :=
  (List.range (24 * len + 1)).map fun p =>
    if p < 24 * len then
      if (readColor s (p / 24)).getLsbD (23 - p % 24) then s.cfg.dutyLong else s.cfg.dutyShort
    else 0

/-! ### Runs -/

/-- A list of operations, one after the other (20_memory.md R60). -/
def execAll : List Instr → State → Host.Outcome State Fault Refusal
  | [], s => .next s
  | i :: is, s =>
    match exec i s with
    | .next t => execAll is t
    | .fault r => .fault r
    | .refused r => .refused r

/-- The events of the block's own agents (30_encoding.md R73). -/
def isEvent : Instr → Bool
  | .evTick | .evPeriod | .evComplete => true
  | _ => false

/-- An infinite run: `ι n` is the operation of step `n`, and `σ n` the state it finds. -/
def Execution (σ : Nat → State) (ι : Nat → Instr) : Prop := ∀ n, exec (ι n) (σ n) = .next (σ (n + 1))

/-- The fairness of 60_exceptions.md R186. -/
def Fair (σ : Nat → State) (ι : Nat → Instr) : Prop :=
  (∀ n, (∀ m, n ≤ m → (σ m).tcPend = true) → ∃ m, n ≤ m ∧ ι m = .evComplete) ∧
    (∀ n, ∃ m, n ≤ m ∧ ι m = .evPeriod) ∧ (∀ n, ∃ m, n ≤ m ∧ ι m = .evTick)

/-! ### The end of a run (70_reset_and_hazards.md R213) -/

/-- The block is quiescent. -/
abbrev Quiescent (s : State) : Prop := s.busy = false

/-- The run has ended: the host program has executed `halt`, and the block is quiescent. -/
abbrev Ended (h : HostState) (s : State) : Prop := h.halted = true ∧ Quiescent s

/-- A good run's fault record is empty. -/
abbrev Good (s : State) : Prop := s.faults = []

/-- The values the host's reads returned, oldest first. -/
def returned (s : State) : List Word :=
  s.responses.filterMap fun
    | .data v => some v
    | .written => none
    | .error => none

end Sys2Proof.Safety
end

