-- ==== Sys2Proof/Certificates/Slice0/Obligations.lean ====
section
/-! DEFINITION. The statements for the provers, from the numbered rules of spec/. -/

open Sys2Proof Sys2Proof.Machine Sys2Proof.Safety

/-! ### Decoding and encoding (30_encoding.md) -/

/-- Words of R80 decode to their rows, under every valid configuration and whatever the data word. -/
def Obligations.OpcodeTableWordsDecode : Prop :=
  ∀ (c : Config) (v : Word), c.Valid →
    decode c ⟨0x20000008, v⟩ = .operation .rdFrameLen ∧ decode c ⟨0x20000010, v⟩ = .operation .rdCfg0 ∧
      decode c ⟨0x20000020, v⟩ = .operation (.rdLast 0) ∧ decode c ⟨0x60004000, v⟩ = .operation (.wrColor 0 v) ∧
      decode c ⟨0x20008000, v⟩ = .operation (.rdPulse 0) ∧ decode c ⟨0x60000000, v⟩ = .operation (.wrCtrl v) ∧
      decode c ⟨0x80000001, v⟩ = .operation .evPeriod ∧ decode c ⟨0x00000004, v⟩ = .operation (.busError 4) ∧
      decode c ⟨0xC0000000, v⟩ = .invalid .kindNone

/-- Decoding the words of a well-formed instruction gives it back, for every instruction and operand. -/
def Obligations.EncodeThenDecodeIsIdentity : Prop :=
  ∀ (c : Config) (i : Instr), c.Valid → i.wf c = true → decode c (encode i) = .operation i

/-- The decoder answers only well-formed instructions, and drops no bit of the words: the descriptor can be written
again from the answer, and so can the data word of a write. -/
def Obligations.DecodeKeepsEveryBit : Prop :=
  ∀ (c : Config) (op : Operation) (i : Instr), c.Valid → decode c op = .operation i →
    i.wf c = true ∧ (encode i).descriptor = op.descriptor ∧ ∀ v, writeData i = some v → v = op.data

/-- INVALID is answered exactly for the descriptors that spell no operation (R76, R78): by the numbers of the fields
KIND, RES, SIZE and EVT. -/
def Obligations.InvalidExactlyWhereNothingIsSpelled : Prop :=
  ∀ (c : Config) (op : Operation),
    ((∃ why, decode c op = .invalid why) ↔
      op.descriptor.toNat / 2 ^ 30 = 3 ∨ op.descriptor.toNat / 2 ^ 16 % 2 ^ 12 ≠ 0 ∨
        (op.descriptor.toNat / 2 ^ 30 = 2 ∧
          (op.descriptor.toNat / 2 ^ 28 % 4 ≠ 0 ∨ 3 ≤ op.descriptor.toNat % 2 ^ 16)) ∨
        (op.descriptor.toNat / 2 ^ 30 < 2 ∧ op.descriptor.toNat / 2 ^ 28 % 4 = 3))

/-- BUS_ERROR is answered exactly for the accesses that the address map turns away (20_memory.md R52, R53, R54): the
table-driven decoder and the map agree on every descriptor. -/
def Obligations.BusErrorExactlyOffTheMap : Prop :=
  ∀ (c : Config) (op : Operation), c.Valid →
    ((∃ d, decode c op = .operation (.busError d)) ↔ accessErrs c op.descriptor = true) ∧
      (accessErrs c op.descriptor = true → decode c op = .operation (.busError op.descriptor))

/-- R77: two different rows that match one descriptor differ in their number of mask bits, and an exact row beats a
channel row of its low nibble; of the channel, COLOR and PULSE rows no two kinds match one descriptor, for the reason
R77 gives; 0x2000_0000 and 0x2000_0010 are RD_CTRL and RD_CFG0. -/
def Obligations.MostSpecificRowIsUnique : Prop :=
  (∀ (d : Word) (r r' : Row), rowMatches d r = true → rowMatches d r' = true → maskBits r = maskBits r' → r = r') ∧
    (∀ (d : Word) (r r' : Row), rowMatches d r = true → rowMatches d r' = true →
      ¬ (rowMask r = 0xFFFFFF0F ∧ rowMask r' = 0xFFFFC003) ∧ ¬ (rowMask r = 0xFFFFFF0F ∧ rowMask r' = 0xFFFF8003) ∧
        ¬ (rowMask r = 0xFFFFC003 ∧ rowMask r' = 0xFFFF8003)) ∧
    (∀ (d : Word) (r r' : Row), rowMatches d r = true → rowMatches d r' = true → rowMask r = 0xFFFFFFFF → r ≠ r' →
      rowMask r' = 0xFFFFFF0F ∧ maskBits r' < maskBits r ∧ (rowMatch r').toNat % 16 = (rowMatch r).toNat % 16) ∧
    (∀ (d : Word) (r : Row), rowMatches d r = true →
      (rowMask r = 0xFFFFFF0F → d.toNat / 2 ^ 8 % 2 ^ 8 = 0) ∧ (rowMask r = 0xFFFFC003 → d.toNat / 2 ^ 14 % 4 = 1) ∧
        (rowMask r = 0xFFFF8003 → d.toNat / 2 ^ 15 % 2 = 1)) ∧
    ∀ (c : Config) (v : Word),
      decode c ⟨0x20000000, v⟩ = .operation .rdCtrl ∧ decode c ⟨0x20000010, v⟩ = .operation .rdCfg0

/-! ### The step, reset and the invariant -/

/-- A step runs the operation at the head of the schedule, on the state without it; an INVALID descriptor is refused by
name; and with nothing scheduled one of the three internal events runs. -/
def Obligations.StepRunsTheDecodedInstruction : Prop :=
  (∀ (s : State) (op : Operation) (rest : List Input) (i : Instr),
      s.schedule = .operation op :: rest → decode s.cfg op = .operation i →
        step s = exec i { s with schedule := rest }) ∧
    (∀ (s : State) (op : Operation) (rest : List Input) (why : InvalidReason),
      s.schedule = .operation op :: rest → decode s.cfg op = .invalid why →
        step s = .refused (.invalidDescriptor why op.descriptor)) ∧
    (∀ s : State, s.schedule = [] →
      ∃ i, isEvent i = true ∧ step s = exec i { s with draws := s.draws + 1 }) ∧
    ∀ (s : State) (w : Nat) (i : Instr), w < 2 ^ 32 → decode s.cfg ⟨BitVec.ofNat 32 w, 0⟩ = .operation i →
      step (s.withFetchWord 32 w) = exec i s

/-- R200: asserting reset is one step, in every phase; every piece of state takes its reset value, the line and the fault
record start empty, the configuration does not change, and the RAMs hold unspecified contents, a fresh draw. -/
def Obligations.ResetInputLeavesTheResetState : Prop :=
  ∀ (s : State) (rest : List Input), s.cfg.nLeds ≤ 341 → s.schedule = .reset :: rest →
    ∃ t, step s = .next t ∧ t.cfg = s.cfg ∧ t.frameLen.toNat = s.cfg.nLeds ∧ t.pulseLen = 0 ∧ t.idx = 0 ∧ t.cmp = 0 ∧
      t.busy = false ∧ t.tcPend = false ∧ t.outEn = false ∧ t.errBusy = false ∧ t.errLen = false ∧ t.tick = 0 ∧
      t.last = List.replicate s.cfg.nTasks 0 ∧ t.line = [] ∧ t.faults = [] ∧ t.RamWf ∧ (∀ k, k < s.cfg.nLeds → readColor t k = Config.drawColor s.draws k) ∧
      ∀ j, j < s.cfg.pulseCap → readPulse t j = Config.drawPulse s.draws j

/-- The model's own fields at a reset input (the model's choice: log entry 6): the answers of the run before are dropped,
the inputs still to come stay, and another draw is taken for the RAMs. -/
def Obligations.ResetInputKeepsTheSchedule : Prop :=
  ∀ (s : State) (rest : List Input), s.schedule = .reset :: rest →
    ∃ t, step s = .next t ∧ t.responses = [] ∧ t.schedule = rest ∧ t.draws = s.draws + 1

/-- R201: what the host reads after reset, under every valid configuration; State.reset is the case of EX (which
configuration that is, is the model's choice: log entry 1). -/
def Obligations.ResetStateReadsAsStated : Prop :=
  ∀ (c : Config) (n : Nat), c.Valid →
    phase (State.resetWith c n) = .idle ∧
      exec .rdStatus (State.resetWith c n) = .next (answered (State.resetWith c n) (.data 0)) ∧
      exec .rdXfer (State.resetWith c n) = .next (answered (State.resetWith c n) (.data 0)) ∧
      (∃ v : Word, v.toNat = c.nLeds ∧
        exec .rdFrameLen (State.resetWith c n) = .next (answered (State.resetWith c n) (.data v))) ∧
      exec .rdTick (State.resetWith c n) = .next (answered (State.resetWith c n) (.data 0)) ∧
      (∀ i, readLast (State.resetWith c n) i = 0) ∧ State.reset = State.resetWith Config.ex 0

/-- The invariant (10_state.md R42 to R45) holds after reset, under every valid configuration. -/
def Obligations.ResetStateMeetsTheInvariant : Prop :=
  (∀ (c : Config) (n : Nat), c.Valid → BlockInv (State.resetWith c n)) ∧ BlockInv State.reset

/-- Every step keeps the invariant of R42 to R45: whatever the next input is, and where none is scheduled whatever the
free value. -/
def Obligations.EveryStepKeepsTheInvariant : Prop :=
  ∀ s t : State, BlockInv s → step s = .next t → BlockInv t

/-- Every operation completes with a next state, in every state: the block never traps or halts (60_exceptions.md
R180, R190). -/
def Obligations.EveryOperationCompletes : Prop :=
  ∀ (i : Instr) (s : State), ∃ t, exec i s = .next t ∧ t.cfg = s.cfg ∧ t.schedule = s.schedule ∧ t.draws = s.draws

/-! ### The encoder (40_encoder.md) -/

/-- R105. -/
def Obligations.WriteColorStoresTheLow24Bits : Prop :=
  ∀ (s : State) (k : ColorIx) (v : Word),
    encode (.wrColor k v) = ⟨BitVec.ofNat 32 (0x60004000 + 4 * k.toNat), v⟩ ∧
      (s.color.length = s.cfg.nLeds → k.toNat < s.cfg.nLeds →
        ∃ t, exec (.wrColor k v) s = .next t ∧ (readColor t k.toNat).toNat = v.toNat % 2 ^ 24 ∧
          (∀ k', k' ≠ k.toNat → readColor t k' = readColor s k') ∧ t.color.length = s.color.length ∧
          t = { s with color := t.color, responses := s.responses ++ [.written] }) ∧
      (s.cfg.nLeds ≤ k.toNat →
        exec (.wrColor k v) s = .next (errored s (BitVec.ofNat 32 (0x60004000 + 4 * k.toNat))))

/-- R106; a word never written since reset reads its draw, whatever other operations come between. -/
def Obligations.ReadColorReturnsTheWord : Prop :=
  ∀ (s : State) (k : ColorIx),
    encode (.rdColor k) = ⟨BitVec.ofNat 32 (0x20004000 + 4 * k.toNat), 0⟩ ∧
      (k.toNat < s.cfg.nLeds →
        ∃ v : Word, v.toNat = (readColor s k.toNat).toNat ∧ exec (.rdColor k) s = .next (answered s (.data v))) ∧
      (s.cfg.nLeds ≤ k.toNat →
        exec (.rdColor k) s = .next (errored s (BitVec.ofNat 32 (0x20004000 + 4 * k.toNat)))) ∧
      ∀ (c : Config) (n : Nat) (ops : List Instr) (u : State), k.toNat < c.nLeds →
        (∀ op ∈ ops, ∀ v, op ≠ .wrColor k v) → execAll ops (State.resetWith c n) = .next u →
          readColor u k.toNat = Config.drawColor n k.toNat

/-- R107; an entry that no START has written since reset reads its draw. -/
def Obligations.ReadPulseReturnsTheEntry : Prop :=
  ∀ (s : State) (j : PulseIx),
    encode (.rdPulse j) = ⟨BitVec.ofNat 32 (0x20008000 + 4 * j.toNat), 0⟩ ∧
      (j.toNat < s.cfg.pulseCap →
        ∃ v : Word, v.toNat = (readPulse s j.toNat).toNat ∧ exec (.rdPulse j) s = .next (answered s (.data v))) ∧
      (s.cfg.pulseCap ≤ j.toNat →
        exec (.rdPulse j) s = .next (errored s (BitVec.ofNat 32 (0x20008000 + 4 * j.toNat)))) ∧
      ∀ (c : Config) (n : Nat) (ops : List Instr) (u : State), j.toNat < c.pulseCap →
        (∀ op ∈ ops, ∀ v, op ≠ .wrCtrl v) → execAll ops (State.resetWith c n) = .next u →
          readPulse u j.toNat = Config.drawPulse n j.toNat

/-- R108 and R109. -/
def Obligations.FrameLengthIsStoredAndRead : Prop :=
  (∀ (s : State) (v : Word), encode (.wrFrameLen v) = ⟨0x60000008, v⟩ ∧
      ∃ t, exec (.wrFrameLen v) s = .next t ∧ t.frameLen.toNat = v.toNat % 2 ^ 16 ∧
        t = { s with frameLen := t.frameLen, responses := s.responses ++ [.written] }) ∧
    ∀ s : State, encode .rdFrameLen = ⟨0x20000008, 0⟩ ∧
      (∃ v : Word, v.toNat = s.frameLen.toNat ∧ exec .rdFrameLen s = .next (answered s (.data v))) ∧
      ∀ (c : Config) (n : Nat), c.Valid → (State.resetWith c n).frameLen.toNat = c.nLeds

/-- R102 and R103: what an accepted START leaves in PULSE, entry by entry, the entries past the frame among them (R112,
its first two sentences); and R123: what else it writes, and what it does not. -/
def Obligations.AcceptedStartEncodesAndArms : Prop :=
  ∀ (s : State) (v : Word), BlockInv s → v.getLsbD 0 = true → s.busy = false → s.frameLen.toNat ≤ s.cfg.nLeds →
    ∃ t, exec (.wrCtrl v) s = .next t ∧ t.pulseLen.toNat = 24 * s.frameLen.toNat + 1 ∧
      (∀ p, p < 24 * s.frameLen.toNat →
        readPulse t p =
          if (readColor s (p / 24)).getLsbD (23 - p % 24) then s.cfg.dutyLong else s.cfg.dutyShort) ∧
      readPulse t (24 * s.frameLen.toNat) = 0 ∧
      (∀ p, 24 * s.frameLen.toNat < p → readPulse t p = readPulse s p) ∧ t.pulse.length = s.pulse.length ∧
      t.idx = 0 ∧ t.tcPend = false ∧ t.busy = true ∧ t.outEn = true ∧ t.cmp = 0 ∧ t.line = s.line ∧
      t.color = s.color ∧ t.frameLen = s.frameLen ∧ t.tick = s.tick ∧ t.last = s.last ∧ t.faults = s.faults ∧
      t.responses = s.responses ++ [.written] ∧
      t.errBusy = (s.errBusy && !v.getLsbD 1) ∧ t.errLen = (s.errLen && !v.getLsbD 1)

/-- R104: after an accepted START every colour word of the frame can be read back from its 24 entries, and the
terminator is neither duty. -/
def Obligations.PulseEntriesDecodeToTheColors : Prop :=
  ∀ (s t : State) (v : Word), BlockInv s → v.getLsbD 0 = true → s.busy = false → s.frameLen.toNat ≤ s.cfg.nLeds →
    exec (.wrCtrl v) s = .next t →
      (∀ n, n < s.frameLen.toNat → decodedColor t n = (readColor s n).toNat) ∧
        readPulse t (24 * s.frameLen.toNat) ≠ s.cfg.dutyShort ∧ readPulse t (24 * s.frameLen.toNat) ≠ s.cfg.dutyLong

/-- R111: a frame of no LEDs is the terminator alone, and it is one zero-duty period on the line. -/
def Obligations.ZeroLedFrameIsTheTerminatorAlone : Prop :=
  ∀ (s : State) (v : Word), BlockInv s → v.getLsbD 0 = true → s.busy = false → s.frameLen = 0 →
    ∃ t u, exec (.wrCtrl v) s = .next t ∧ t.pulseLen = 1 ∧ readPulse t 0 = 0 ∧
      (∀ p, 1 ≤ p → readPulse t p = readPulse s p) ∧ exec .evPeriod t = .next u ∧ u.line = s.line ++ [0] ∧
      u.tcPend = true

/-- R101. -/
def Obligations.PackMasksEachChannel : Prop :=
  (∀ a b c : Nat, (pack a b c).toNat = a % 256 * 2 ^ 16 + b % 256 * 2 ^ 8 + c % 256) ∧
    pack 0x1FF 0x00 0x80 = 0xFF0080

/-! ### The transmitter (41_transmitter.md) -/

/-- R124, R125 and R126: what a CTRL write does, for every data word and state (the cases of R121 and R122; what an
accepted START writes to PULSE is AcceptedStartEncodesAndArms); and only ERR_CLR clears a sticky bit. -/
def Obligations.CtrlWriteClearsThenStarts : Prop :=
  (∀ (s : State) (v : Word), encode (.wrCtrl v) = ⟨0x60000000, v⟩ ∧
    ∃ t, exec (.wrCtrl v) s = .next t ∧
      (v.getLsbD 0 = false →
        t = { s with
              errBusy := s.errBusy && !v.getLsbD 1
              errLen := s.errLen && !v.getLsbD 1
              responses := s.responses ++ [.written] }) ∧
      (v.getLsbD 0 = true → s.busy = true →
        t = { s with
              errBusy := true
              errLen := s.errLen && !v.getLsbD 1
              responses := s.responses ++ [.written] }) ∧
      (v.getLsbD 0 = true → s.busy = false → s.cfg.nLeds < s.frameLen.toNat →
        t = { s with
              errBusy := s.errBusy && !v.getLsbD 1
              errLen := true
              responses := s.responses ++ [.written] }) ∧
      (v.getLsbD 0 = true → s.busy = false → s.frameLen.toNat ≤ s.cfg.nLeds →
        t = { s with
              pulse := t.pulse
              pulseLen := t.pulseLen
              idx := 0
              tcPend := false
              busy := true
              outEn := true
              errBusy := s.errBusy && !v.getLsbD 1
              errLen := s.errLen && !v.getLsbD 1
              responses := s.responses ++ [.written] })) ∧
    ∀ (i : Instr) (s t : State), exec i s = .next t →
      (s.errBusy = true ∧ t.errBusy = false) ∨ (s.errLen = true ∧ t.errLen = false) →
        ∃ v, i = .wrCtrl v ∧ v.getLsbD 1 = true

/-- R127: EV_PERIOD, its three cases, and the period of a draining frame. -/
def Obligations.PeriodCopiesOneEntryToTheLine : Prop :=
  encode .evPeriod = ⟨0x80000001, 0⟩ ∧
    ∀ s : State, ∃ t, exec .evPeriod s = .next t ∧ (s.outEn = false → t = s) ∧
      (s.outEn = true → s.idx.toNat < s.pulseLen.toNat →
        t.idx.toNat = s.idx.toNat + 1 ∧
          t.tcPend = (s.tcPend || decide (s.idx.toNat + 1 = s.pulseLen.toNat)) ∧
          t = { s with
                cmp := readPulse s s.idx.toNat
                idx := t.idx
                tcPend := t.tcPend
                line := s.line ++ [readPulse s s.idx.toNat] }) ∧
      (s.outEn = true → s.pulseLen.toNat ≤ s.idx.toNat → t = { s with line := s.line ++ [s.cmp] }) ∧
      (BlockInv s → phase s = .draining → t = { s with line := s.line ++ [0] })

/-- R128: a period of the line is high for its high time and low for the rest of `PWM_PERIOD`. -/
def Obligations.LinePeriodsLastPwmPeriod : Prop :=
  ∀ s : State, BlockInv s → ∀ h ∈ s.line,
    (periodLevels s.cfg h).length = s.cfg.pwmPeriod.toNat ∧ (periodLevels s.cfg h).count true = h.toNat

/-- R129: EV_COMPLETE, and the spurious one (R130); and nothing else clears BUSY. -/
def Obligations.CompletionEndsTheFrame : Prop :=
  encode .evComplete = ⟨0x80000002, 0⟩ ∧
    (∀ s : State, ∃ t, exec .evComplete s = .next t ∧ (s.tcPend = false → t = s) ∧
      (s.tcPend = true → t = { s with outEn := false, busy := false, tcPend := false }) ∧
      (BlockInv s → s.tcPend = true → t.cmp = 0)) ∧
    ∀ (i : Instr) (s t : State), exec i s = .next t → s.busy = true → t.busy = false → i = .evComplete

/-- R131: the status word by its bits, and the values it takes in normal operation. -/
def Obligations.StatusReadShowsTheFiveBits : Prop :=
  encode .rdStatus = ⟨0x20000004, 0⟩ ∧
    ∀ s : State, ∃ v : Word, exec .rdStatus s = .next (answered s (.data v)) ∧
      v.toNat = s.busy.toNat + 2 * s.tcPend.toNat + 4 * s.outEn.toNat + 8 * s.errBusy.toNat + 16 * s.errLen.toNat ∧
      (BlockInv s → v.toNat % 8 = match phase s with | .idle => 0 | .transmitting => 5 | .draining => 7)

/-- R132 and R133: CTRL reads 0 in every state; XFER shows the progress, after reset, right after an accepted START and
after a completed frame too. -/
def Obligations.CtrlAndXferReads : Prop :=
  encode .rdCtrl = ⟨0x20000000, 0⟩ ∧ encode .rdXfer = ⟨0x2000001C, 0⟩ ∧
    (∀ s : State, exec .rdCtrl s = .next (answered s (.data 0)) ∧
      ∃ v : Word, v.toNat = s.pulseLen.toNat * 2 ^ 16 + s.idx.toNat ∧ exec .rdXfer s = .next (answered s (.data v))) ∧
    (∀ (c : Config) (n : Nat), exec .rdXfer (State.resetWith c n) = .next (answered (State.resetWith c n) (.data 0))) ∧
    (∀ (s t : State) (v : Word), BlockInv s → v.getLsbD 0 = true → s.busy = false →
      s.frameLen.toNat ≤ s.cfg.nLeds → exec (.wrCtrl v) s = .next t →
        ∃ x : Word, x.toNat = (24 * s.frameLen.toNat + 1) * 2 ^ 16 ∧ exec .rdXfer t = .next (answered t (.data x))) ∧
    ∀ s t : State, BlockInv s → s.tcPend = true → exec .evComplete s = .next t →
      ∃ x : Word, x.toNat = s.pulseLen.toNat * 2 ^ 16 + s.pulseLen.toNat ∧
        exec .rdXfer t = .next (answered t (.data x))

/-- 20_memory.md R56, and the rules of the ten write-ignored rows: the write completes and changes nothing; for an index
that does not exist it is the bus error of its own descriptor. -/
def Obligations.WritesToReadOnlyRegistersAreIgnored : Prop :=
  ∀ (s : State) (v : Word),
    (∀ i ∈ [Instr.wrStatus v, .wrTick v, .wrCfg0 v, .wrCfg1 v, .wrCfg2 v, .wrXfer v],
      exec i s = .next (answered s .written)) ∧
      (∀ ch : Channel, ∀ i ∈ [Instr.wrLast ch v, .wrPeriod ch v, .wrCheck ch v],
        (ch.val < s.cfg.nTasks → exec i s = .next (answered s .written)) ∧
          (s.cfg.nTasks ≤ ch.val → exec i s = .next (errored s (encode i).descriptor))) ∧
      (∀ j : PulseIx,
        (j.toNat < s.cfg.pulseCap → exec (.wrPulse j v) s = .next (answered s .written)) ∧
          (s.cfg.pulseCap ≤ j.toNat → exec (.wrPulse j v) s = .next (errored s (encode (.wrPulse j v)).descriptor))) ∧
      encode (.wrStatus v) = ⟨0x60000004, v⟩ ∧ encode (.wrTick v) = ⟨0x6000000C, v⟩ ∧
      encode (.wrCfg0 v) = ⟨0x60000010, v⟩ ∧ encode (.wrCfg1 v) = ⟨0x60000014, v⟩ ∧
      encode (.wrCfg2 v) = ⟨0x60000018, v⟩ ∧ encode (.wrXfer v) = ⟨0x6000001C, v⟩ ∧
      (∀ ch : Channel, encode (.wrLast ch v) = ⟨BitVec.ofNat 32 (0x60000020 + 0x10 * ch.val), v⟩ ∧
        encode (.wrPeriod ch v) = ⟨BitVec.ofNat 32 (0x60000024 + 0x10 * ch.val), v⟩ ∧
        encode (.wrCheck ch v) = ⟨BitVec.ofNat 32 (0x60000028 + 0x10 * ch.val), v⟩) ∧
      ∀ j : PulseIx, encode (.wrPulse j v) = ⟨BitVec.ofNat 32 (0x60008000 + 4 * j.toNat), v⟩

/-- R136: BUSY rises exactly in the step of an accepted START and falls exactly in the EV_COMPLETE that finds TC_PEND. -/
def Obligations.BusyHoldsFromStartToCompletion : Prop :=
  ∀ (i : Instr) (s t : State), BlockInv s → exec i s = .next t →
    ((s.busy = false ∧ t.busy = true) ↔
      ∃ v, i = .wrCtrl v ∧ v.getLsbD 0 = true ∧ s.busy = false ∧ s.frameLen.toNat ≤ s.cfg.nLeds) ∧
      ((s.busy = true ∧ t.busy = false) ↔ (i = .evComplete ∧ s.tcPend = true))

/-- R38 and R120: the transmitter moves IDLE, TRANSMITTING, DRAINING, IDLE and skips no phase. -/
def Obligations.NoPhaseIsSkipped : Prop :=
  ∀ (i : Instr) (s t : State), BlockInv s → exec i s = .next t →
    match phase s with
    | .idle => phase t = .idle ∨ phase t = .transmitting
    | .transmitting => phase t = .transmitting ∨ phase t = .draining
    | .draining => phase t = .draining ∨ phase t = .idle

/-- R137: a frame goes out entry by entry, the entries of the colours that START found, and then zeros, however the
host's accesses and the other events fall between the periods (an EV_COMPLETE before the frame is exhausted among
them); it drains after exactly `24L + 1` periods, and the first EV_COMPLETE after that ends it. -/
def Obligations.FrameStreamsInOrderWhateverIntervenes : Prop :=
  ∀ (s t u : State) (v : Word) (early late : List Instr), BlockInv s → v.getLsbD 0 = true → s.busy = false →
    s.frameLen.toNat ≤ s.cfg.nLeds → exec (.wrCtrl v) s = .next t → early.count .evPeriod ≤ 24 * s.frameLen.toNat →
    (∀ op ∈ late, op ≠ .evComplete) → execAll (early ++ late) t = .next u →
      u.line = s.line ++
          (frameOf s s.frameLen.toNat ++ List.replicate ((early ++ late).count Instr.evPeriod) 0).take
            ((early ++ late).count Instr.evPeriod) ∧
        u.idx.toNat = min ((early ++ late).count .evPeriod) (24 * s.frameLen.toNat + 1) ∧
        (phase u = .draining ↔ 24 * s.frameLen.toNat + 1 ≤ (early ++ late).count .evPeriod) ∧ u.busy = true ∧
        (24 * s.frameLen.toNat + 1 ≤ (early ++ late).count .evPeriod →
          ∃ w, exec .evComplete u = .next w ∧ phase w = .idle ∧ w.line = u.line)

/-- 20_memory.md R64: what COLOR and FRAME_LEN hold reaches nothing else without a START. -/
def Obligations.ColorsReachNothingWithoutStart : Prop :=
  ∀ (ops : List Instr) (s s' t t' : State), (∀ op ∈ ops, ∀ v, op ≠ .wrCtrl v) →
    s' = { s with color := s'.color, frameLen := s'.frameLen, responses := s'.responses } →
    execAll ops s = .next t → execAll ops s' = .next t' →
      t' = { t with color := t'.color, frameLen := t'.frameLen, responses := t'.responses }

/-- 30_encoding.md R83, on WRITE_FRAME: after a state with BUSY = 0, whatever internal events come, a START is not
refused as busy. -/
def Obligations.StartAfterIdleReadIsNotRefusedBusy : Prop :=
  ∀ (s t : State) (ops : List Instr) (v : Word), BlockInv s → s.busy = false → (∀ op ∈ ops, isEvent op = true) →
    execAll ops s = .next t → v.getLsbD 0 = true → s.frameLen.toNat ≤ s.cfg.nLeds →
      ∃ u, exec (.wrCtrl v) t = .next u ∧ u.busy = true ∧ u.errBusy = (t.errBusy && !v.getLsbD 1)

/-! ### Tick and timestamps (42_tick_timestamp.md) -/

/-- R140. -/
def Obligations.TickEventAddsOne : Prop :=
  encode .evTick = ⟨0x80000000, 0⟩ ∧
    ∀ s : State, ∃ t, exec .evTick s = .next t ∧ t.tick.toNat = (s.tick.toNat + 1) % 2 ^ 32 ∧
      t = { s with tick := t.tick }

/-- R141, R143 and R145. -/
def Obligations.TimestampReads : Prop :=
  ∀ s : State,
    encode .rdTick = ⟨0x2000000C, 0⟩ ∧ exec .rdTick s = .next (answered s (.data s.tick)) ∧
      (∀ (c : Config) (n : Nat), (State.resetWith c n).tick = 0) ∧
      ∀ i : Channel,
        encode (.rdLast i) = ⟨BitVec.ofNat 32 (0x20000020 + 0x10 * i.val), 0⟩ ∧
          encode (.rdPeriod i) = ⟨BitVec.ofNat 32 (0x20000024 + 0x10 * i.val), 0⟩ ∧
          (i.val < s.cfg.nTasks →
            exec (.rdLast i) s = .next (answered s (.data (readLast s i.val))) ∧
              exec (.rdPeriod i) s = .next (answered s (.data (taskPeriodOf s.cfg i.val)))) ∧
          (s.cfg.nTasks ≤ i.val →
            exec (.rdLast i) s = .next (errored s (BitVec.ofNat 32 (0x20000020 + 0x10 * i.val))) ∧
              exec (.rdPeriod i) s = .next (errored s (BitVec.ofNat 32 (0x20000024 + 0x10 * i.val)))) ∧
          ∀ (c : Config) (n : Nat), readLast (State.resetWith c n) i.val = 0

/-- R147. -/
def Obligations.CheckFiresAndRearms : Prop :=
  ∀ (s : State) (i : Channel),
    encode (.rdCheck i) = ⟨BitVec.ofNat 32 (0x20000028 + 0x10 * i.val), 0⟩ ∧
      (s.last.length = s.cfg.nTasks → i.val < s.cfg.nTasks →
        (taskPeriodOf s.cfg i.val).toNat ≤ (s.tick.toNat + 2 ^ 32 - (readLast s i.val).toNat) % 2 ^ 32 →
          ∃ t, exec (.rdCheck i) s = .next t ∧ readLast t i.val = s.tick ∧
            (∀ i', i' ≠ i.val → readLast t i' = readLast s i') ∧ t.last.length = s.last.length ∧
            t = { s with last := t.last, responses := s.responses ++ [.data 1] } ∧
            (1 ≤ (taskPeriodOf s.cfg i.val).toNat → exec (.rdCheck i) t = .next (answered t (.data 0)))) ∧
      (i.val < s.cfg.nTasks →
        (s.tick.toNat + 2 ^ 32 - (readLast s i.val).toNat) % 2 ^ 32 < (taskPeriodOf s.cfg i.val).toNat →
          exec (.rdCheck i) s = .next (answered s (.data 0))) ∧
      (s.cfg.nTasks ≤ i.val →
        exec (.rdCheck i) s = .next (errored s (BitVec.ofNat 32 (0x20000028 + 0x10 * i.val))))

/-- R149: the elapsed time is the number of ticks since LAST was written, modulo `2^32`, whatever else happens in
between and whether or not TICK wraps. -/
def Obligations.ElapsedCountsTheTicks : Prop :=
  ∀ (ops : List Instr) (s t : State) (i : Channel), (∀ op ∈ ops, op ≠ .rdCheck i) → execAll ops s = .next t →
    readLast s i.val = s.tick → (elapsed t i.val).toNat = ops.count .evTick % 2 ^ 32

/-- R150: a late check fires once, sets LAST to the current TICK, and the next firing is due a full period after it. -/
def Obligations.LateCheckDoesNotCatchUp : Prop :=
  ∀ (s : State) (i : Channel), s.last.length = s.cfg.nTasks → i.val < s.cfg.nTasks →
    2 * (taskPeriodOf s.cfg i.val).toNat ≤ (elapsed s i.val).toNat →
      ∃ t, exec (.rdCheck i) s = .next t ∧ t.responses = s.responses ++ [.data 1] ∧ readLast t i.val = s.tick ∧
        ∀ (ops : List Instr) (u : State), (∀ op ∈ ops, op ≠ .rdCheck i) → execAll ops t = .next u →
          ops.count .evTick < 2 ^ 32 →
            ∃ w, exec (.rdCheck i) u = .next w ∧
              w.responses = u.responses ++
                [.data (if (taskPeriodOf s.cfg i.val).toNat ≤ ops.count .evTick then 1 else 0)]

/-- R152: a period of 0 fires on every read; a period of `2^32 - 1` fires only at exactly that elapsed time and not one
tick later; and from reset the first firing is due at the period. -/
def Obligations.PeriodCornerCases : Prop :=
  (∀ (s : State) (i : Channel), s.last.length = s.cfg.nTasks → i.val < s.cfg.nTasks →
      taskPeriodOf s.cfg i.val = 0 →
        ∃ t, exec (.rdCheck i) s = .next t ∧ t.responses = s.responses ++ [.data 1] ∧ readLast t i.val = s.tick) ∧
    (∀ (s : State) (i : Channel), i.val < s.cfg.nTasks → (taskPeriodOf s.cfg i.val).toNat = 2 ^ 32 - 1 →
      ∃ t, exec (.rdCheck i) s = .next t ∧
        t.responses = s.responses ++ [.data (if (elapsed s i.val).toNat = 2 ^ 32 - 1 then 1 else 0)] ∧
        ((elapsed s i.val).toNat = 2 ^ 32 - 1 →
          ∃ u, exec .evTick s = .next u ∧ exec (.rdCheck i) u = .next (answered u (.data 0)))) ∧
    ∀ (c : Config) (n : Nat) (i : Channel) (ops : List Instr) (t : State), i.val < c.nTasks →
      (∀ op ∈ ops, op ≠ .rdCheck i) → execAll ops (State.resetWith c n) = .next t → ops.count .evTick < 2 ^ 32 →
        ∃ u, exec (.rdCheck i) t = .next u ∧
          u.responses = t.responses ++ [.data (if (taskPeriodOf c i.val).toNat ≤ ops.count .evTick then 1 else 0)]

/-- R153: every operation leaves TICK or, EV_TICK, adds one; no other timestamp state changes but by a host read of
CHECK_i. -/
def Obligations.OnlyTheTickEventMovesTime : Prop :=
  ∀ (i : Instr) (s t : State), exec i s = .next t →
    (i = .evTick → t.tick.toNat = (s.tick.toNat + 1) % 2 ^ 32) ∧ (i ≠ .evTick → t.tick = s.tick) ∧
      ((∀ ch, i ≠ .rdCheck ch) → t.last = s.last)

/-! ### Configuration (43_config_and_bus.md) -/

/-- R160, R161 and R162. -/
def Obligations.ConfigurationReads : Prop :=
  encode .rdCfg0 = ⟨0x20000010, 0⟩ ∧ encode .rdCfg1 = ⟨0x20000014, 0⟩ ∧ encode .rdCfg2 = ⟨0x20000018, 0⟩ ∧
    ∀ s : State, s.cfg.Valid →
      (∃ v : Word, v.toNat = s.cfg.nTasks * 2 ^ 16 + s.cfg.nLeds ∧ exec .rdCfg0 s = .next (answered s (.data v))) ∧
        (∃ v : Word, v.toNat = s.cfg.dutyLong.toNat * 2 ^ 16 + s.cfg.dutyShort.toNat ∧
          exec .rdCfg1 s = .next (answered s (.data v))) ∧
        ∃ v : Word, v.toNat = s.cfg.pwmPeriod.toNat ∧ exec .rdCfg2 s = .next (answered s (.data v))

/-! ### Errors, ordering and the end of a run (60_exceptions.md, 20_memory.md, 70_reset_and_hazards.md) -/

/-- R181: the bus error: an error response, no data, the record and nothing else; and no later operation clears the
record. -/
def Obligations.BusErrorIsRecordedForGood : Prop :=
  (∀ (s : State) (d : Word), exec (.busError d) s = .next (errored s d)) ∧
    ∀ (i : Instr) (s t : State), exec i s = .next t → s.faults <+: t.faults

/-- A step loses no entry of the fault record unless its input is reset. That reset empties it is R200; that a step can
be a reset at all is the model's choice (log entry 6). -/
def Obligations.OnlyResetEmptiesTheFaultRecord : Prop :=
  ∀ s t : State, step s = .next t → s.faults <+: t.faults ∨ s.schedule.head? = some .reset

/-- 20_memory.md R52 and R54, on the step: an access that is not word-sized, not aligned or not on the map ends in the
error response and changes no state. -/
def Obligations.RefusedAccessChangesNoState : Prop :=
  ∀ (s : State) (op : Operation) (rest : List Input), s.cfg.Valid → s.schedule = .operation op :: rest →
    op.descriptor.toNat / 2 ^ 30 < 2 → op.descriptor.toNat / 2 ^ 16 % 2 ^ 12 = 0 →
    op.descriptor.toNat / 2 ^ 28 % 4 ≠ 3 →
    (op.descriptor.toNat / 2 ^ 28 % 4 ≠ 2 ∨ op.descriptor.toNat % 4 ≠ 0 ∨
      offsetMapped s.cfg (op.descriptor.toNat % 2 ^ 16) = false) →
      step s = .next (errored { s with schedule := rest } op.descriptor)

/-- R189: an operation meets at most one error condition, and what it leaves recorded is exactly that one: ERR_BUSY
before ERR_LEN, and a bus error with no partial effect. -/
def Obligations.AtMostOneErrorPerOperation : Prop :=
  ∀ (i : Instr) (s t : State), exec i s = .next t →
    (conditionsOf i s).length ≤ 1 ∧
      (.busError ∈ conditionsOf i s ↔ t.faults ≠ s.faults) ∧
      (.busError ∈ conditionsOf i s → ∃ d, t = errored s d) ∧
      (.errBusy ∈ conditionsOf i s → t.errBusy = true) ∧ (.errLen ∈ conditionsOf i s → t.errLen = true) ∧
      (.errBusy ∉ conditionsOf i s → t.errBusy = true → s.errBusy = true) ∧
      (.errLen ∉ conditionsOf i s → t.errLen = true → s.errLen = true)

/-- 10_state.md R22 (the column "written by") and R46: each field has one writer; START writes the three shared bits only
when BUSY = 0 and the events only when BUSY = 1. -/
def Obligations.EachFieldHasOneWriter : Prop :=
  ∀ (i : Instr) (s t : State), exec i s = .next t →
    (t.color ≠ s.color → ∃ k v, i = .wrColor k v) ∧ (t.frameLen ≠ s.frameLen → ∃ v, i = .wrFrameLen v) ∧
      (t.pulse ≠ s.pulse ∨ t.pulseLen ≠ s.pulseLen → ∃ v, i = .wrCtrl v) ∧
      (t.cmp ≠ s.cmp ∨ t.line ≠ s.line → i = .evPeriod) ∧
      (t.idx ≠ s.idx → i = .evPeriod ∨ ∃ v, i = .wrCtrl v) ∧
      (t.errBusy ≠ s.errBusy ∨ t.errLen ≠ s.errLen → ∃ v, i = .wrCtrl v) ∧
      (t.tick ≠ s.tick → i = .evTick) ∧ (t.last ≠ s.last → ∃ ch, i = .rdCheck ch) ∧
      (BlockInv s → t.busy ≠ s.busy ∨ t.tcPend ≠ s.tcPend ∨ t.outEn ≠ s.outEn →
        (∃ v, i = .wrCtrl v ∧ s.busy = false) ∨ (i = .evPeriod ∧ s.busy = true) ∨ (i = .evComplete ∧ s.busy = true))

/-- 20_memory.md R59: every read but CHECK_i changes nothing and gives the same value when repeated; every write but a
CTRL write with START changes nothing when repeated; a repeated START while BUSY sets ERR_BUSY. -/
def Obligations.ReadsAndWritesRepeat : Prop :=
  (∀ (i : Instr) (s : State), isRead i = true → (∀ ch, i ≠ .rdCheck ch) → i.wf s.cfg = true →
      ∃ v, exec i s = .next (answered s (.data v)) ∧
        exec i (answered s (.data v)) = .next (answered (answered s (.data v)) (.data v))) ∧
    (∀ (i : Instr) (s t : State) (v : Word), writeData i = some v → i.wf s.cfg = true →
      (i = .wrCtrl v → v.getLsbD 0 = false) → exec i s = .next t → exec i t = .next (answered t .written)) ∧
    ∀ (s t : State) (v : Word), v.getLsbD 0 = true → s.busy = true → exec (.wrCtrl v) s = .next t → t.errBusy = true

/-- R186: in every fair run each busy frame is ended by an EV_COMPLETE after finitely many steps. The fairness is a
premise and not built into the step (log entry 11). -/
def Obligations.FairRunsEndEveryFrame : Prop :=
  ∀ (σ : Nat → State) (ι : Nat → Instr), Execution σ ι → Fair σ ι → BlockInv (σ 0) →
    ∀ n, (σ n).busy = true →
      ∃ m, n ≤ m ∧ ι m = .evComplete ∧ (σ m).busy = true ∧ (σ (m + 1)).busy = false

/-- 70_reset_and_hazards.md R213: with BUSY = 0 the internal events change only TICK. -/
def Obligations.IdleEventsChangeOnlyTick : Prop :=
  ∀ (ops : List Instr) (s t : State), BlockInv s → s.busy = false → (∀ op ∈ ops, isEvent op = true) →
    execAll ops s = .next t → t = { s with tick := t.tick } ∧
      t.tick.toNat = (s.tick.toNat + ops.count .evTick) % 2 ^ 32
end

