-- ==== Sys2Proof/Laws/Decode.lean ====
section
/-! SUPPORT. What the decoder's pieces say in arithmetic: the fields of a descriptor, when a row of the table matches,
and the descriptors the encoder writes. -/

namespace Sys2Proof

/-! ### Fields -/

theorem kindOf_toNat (d : Word) : (kindOf d).toNat = d.toNat / 2 ^ 30 := by
  have := d.isLt
  simp only [kindOf, BitVec.extractLsb'_toNat, Nat.shiftRight_eq_div_pow]
  omega

theorem accessSizeOf_toNat (d : Word) : (accessSizeOf d).toNat = d.toNat / 2 ^ 28 % 4 := by
  simp [accessSizeOf, BitVec.extractLsb'_toNat, Nat.shiftRight_eq_div_pow]

theorem resOf_toNat (d : Word) : (resOf d).toNat = d.toNat / 2 ^ 16 % 2 ^ 12 := by
  simp [resOf, BitVec.extractLsb'_toNat, Nat.shiftRight_eq_div_pow]

theorem ofsOf_toNat (d : Word) : (ofsOf d).toNat = d.toNat % 2 ^ 16 := by
  simp [ofsOf, BitVec.extractLsb'_toNat]

theorem chOf_toNat (d : Word) : (chOf d).toNat = d.toNat / 16 % 16 := by
  simp [chOf, BitVec.extractLsb'_toNat, Nat.shiftRight_eq_div_pow]

theorem colorIxOf_toNat (d : Word) : (colorIxOf d).toNat = d.toNat / 4 % 2 ^ 12 := by
  simp [colorIxOf, BitVec.extractLsb'_toNat, Nat.shiftRight_eq_div_pow]

theorem pulseIxOf_toNat (d : Word) : (pulseIxOf d).toNat = d.toNat / 4 % 2 ^ 13 := by
  simp [pulseIxOf, BitVec.extractLsb'_toNat, Nat.shiftRight_eq_div_pow]

/-! ### When a row matches -/

/-- A mask that leaves out the bits `lo .. hi - 1` compares the bits below `lo` and the bits from `hi` up. -/
theorem mask_match_iff (d m mask : Word) (lo hi : Nat)
    (hmask : ∀ i, i < 32 → mask.getLsbD i = (decide (i < lo) || decide (hi ≤ i)))
    (hm : ∀ i, i < 32 → lo ≤ i → i < hi → m.getLsbD i = false) :
    d &&& mask = m ↔ d.toNat % 2 ^ lo = m.toNat % 2 ^ lo ∧ d.toNat / 2 ^ hi = m.toNat / 2 ^ hi := by
  have bit (x : Word) (i : Nat) : x.toNat.testBit i = x.getLsbD i := by rw [BitVec.testBit_toNat]
  constructor
  · intro h
    subst h
    constructor
    · apply Nat.eq_of_testBit_eq
      intro i
      rw [Nat.testBit_mod_two_pow, Nat.testBit_mod_two_pow, bit, bit, BitVec.getLsbD_and]
      by_cases hi32 : i < 32
      · rw [hmask i hi32]
        by_cases i < lo <;> simp [*]
      · rw [BitVec.getLsbD_of_ge d i (by omega)]
        simp
    · apply Nat.eq_of_testBit_eq
      intro i
      rw [Nat.testBit_div_two_pow, Nat.testBit_div_two_pow, bit, bit, BitVec.getLsbD_and]
      by_cases hi32 : i + hi < 32
      · rw [hmask _ hi32]
        simp
      · rw [BitVec.getLsbD_of_ge d _ (by omega)]
        simp
  · rintro ⟨h₁, h₂⟩
    apply BitVec.eq_of_getLsbD_eq
    intro i hi32
    rw [BitVec.getLsbD_and, hmask i hi32]
    by_cases h₃ : i < lo
    · have := congrArg (fun n => n.testBit i) h₁
      simp only [Nat.testBit_mod_two_pow, bit, h₃, decide_true, Bool.true_and] at this
      simp [h₃, this]
    · by_cases h₄ : hi ≤ i
      · have := congrArg (fun n => n.testBit (i - hi)) h₂
        simp only [Nat.testBit_div_two_pow, bit, Nat.sub_add_cancel h₄] at this
        simp [h₄, this]
      · simp [h₃, h₄, hm i hi32 (by omega) (by omega)]

/-- A field of zeros has no bit set. -/
theorem getLsbD_of_field_zero (m : Word) (lo len : Nat) (hm : m.toNat / 2 ^ lo % 2 ^ len = 0) (i : Nat)
    (h₁ : lo ≤ i) (h₂ : i < lo + len) : m.getLsbD i = false := by
  have := congrArg (fun n => n.testBit (i - lo)) hm
  simp only [Nat.testBit_mod_two_pow, Nat.testBit_div_two_pow, Nat.sub_add_cancel h₁, BitVec.testBit_toNat,
    show i - lo < len by omega, decide_true, Bool.true_and, Nat.zero_testBit] at this
  exact this

/-- The channel rows compare `d[31:8]` and `d[3:0]`. -/
theorem channelMask_iff (d m : Word) (hm : m.toNat / 16 % 16 = 0) :
    d &&& 0xFFFFFF0F = m ↔ d.toNat % 16 = m.toNat % 16 ∧ d.toNat / 256 = m.toNat / 256 := by
  exact mask_match_iff d m _ 4 8 (by decide) fun i _ h₁ h₂ => getLsbD_of_field_zero m 4 4 hm i h₁ (by omega)

/-- The COLOR rows compare `d[31:14]` and `d[1:0]`. -/
theorem colorMask_iff (d m : Word) (hm : m.toNat / 4 % 2 ^ 12 = 0) :
    d &&& 0xFFFFC003 = m ↔ d.toNat % 4 = m.toNat % 4 ∧ d.toNat / 2 ^ 14 = m.toNat / 2 ^ 14 := by
  exact mask_match_iff d m _ 2 14 (by decide) fun i _ h₁ h₂ => getLsbD_of_field_zero m 2 12 hm i h₁ (by omega)

/-- The PULSE rows compare `d[31:15]` and `d[1:0]`. -/
theorem pulseMask_iff (d m : Word) (hm : m.toNat / 4 % 2 ^ 13 = 0) :
    d &&& 0xFFFF8003 = m ↔ d.toNat % 4 = m.toNat % 4 ∧ d.toNat / 2 ^ 15 = m.toNat / 2 ^ 15 := by
  exact mask_match_iff d m _ 2 15 (by decide) fun i _ h₁ h₂ => getLsbD_of_field_zero m 2 13 hm i h₁ (by omega)

/-- When each row of R80 matches, by the numbers of its descriptor. -/
theorem rowMatches_iff (d : Word) (r : Row) :
    rowMatches d r = true ↔
      match r with
      | .rdLast => d.toNat % 16 = 0 ∧ d.toNat / 256 = 0x200000
      | .rdPeriod => d.toNat % 16 = 4 ∧ d.toNat / 256 = 0x200000
      | .rdCheck => d.toNat % 16 = 8 ∧ d.toNat / 256 = 0x200000
      | .wrLast => d.toNat % 16 = 0 ∧ d.toNat / 256 = 0x600000
      | .wrPeriod => d.toNat % 16 = 4 ∧ d.toNat / 256 = 0x600000
      | .wrCheck => d.toNat % 16 = 8 ∧ d.toNat / 256 = 0x600000
      | .rdColor => d.toNat % 4 = 0 ∧ d.toNat / 2 ^ 14 = 0x8001
      | .wrColor => d.toNat % 4 = 0 ∧ d.toNat / 2 ^ 14 = 0x18001
      | .rdPulse => d.toNat % 4 = 0 ∧ d.toNat / 2 ^ 15 = 0x4001
      | .wrPulse => d.toNat % 4 = 0 ∧ d.toNat / 2 ^ 15 = 0xC001
      | r => d.toNat = (rowMatch r).toNat := by
  have exact (m : Word) : (d &&& 0xFFFFFFFF == m) = true ↔ d.toNat = m.toNat := by
    rw [beq_iff_eq, show (0xFFFFFFFF : Word) = BitVec.allOnes 32 from rfl, BitVec.and_allOnes, BitVec.toNat_inj]
  cases r
  case rdLast => exact beq_iff_eq.trans (channelMask_iff d 0x20000000 (by decide))
  case rdPeriod => exact beq_iff_eq.trans (channelMask_iff d 0x20000004 (by decide))
  case rdCheck => exact beq_iff_eq.trans (channelMask_iff d 0x20000008 (by decide))
  case wrLast => exact beq_iff_eq.trans (channelMask_iff d 0x60000000 (by decide))
  case wrPeriod => exact beq_iff_eq.trans (channelMask_iff d 0x60000004 (by decide))
  case wrCheck => exact beq_iff_eq.trans (channelMask_iff d 0x60000008 (by decide))
  case rdColor => exact beq_iff_eq.trans (colorMask_iff d 0x20004000 (by decide))
  case wrColor => exact beq_iff_eq.trans (colorMask_iff d 0x60004000 (by decide))
  case rdPulse => exact beq_iff_eq.trans (pulseMask_iff d 0x20008000 (by decide))
  case wrPulse => exact beq_iff_eq.trans (pulseMask_iff d 0x60008000 (by decide))
  all_goals exact exact _

/-! ### The row search (30_encoding.md R76, R77) -/

/-- What the fold over the matching rows answers is a row it was given, and none it was given has more mask bits. -/
theorem foldl_moreSpecific {l : List Row} {b : Option Row} {r : Row} (h : l.foldl moreSpecific b = some r) :
    (b = some r ∨ r ∈ l) ∧ (∀ x, b = some x → maskBits x ≤ maskBits r) ∧ ∀ x ∈ l, maskBits x ≤ maskBits r := by
  induction l generalizing b with
  | nil => exact ⟨.inl h, fun x hx => by cases hx.symm.trans h; exact Nat.le_refl _, nofun⟩
  | cons a l ih =>
    obtain ⟨h₁, h₂, h₃⟩ := ih h
    have hmore : (b = none ∧ moreSpecific b a = some a) ∨
        ∃ x, b = some x ∧ (maskBits x < maskBits a ∧ moreSpecific b a = some a ∨
          maskBits a ≤ maskBits x ∧ moreSpecific b a = some x) := by
      cases b with
      | none => exact .inl ⟨rfl, rfl⟩
      | some x =>
        by_cases hx : maskBits x < maskBits a
        · exact .inr ⟨x, rfl, .inl ⟨hx, by simp [moreSpecific, hx]⟩⟩
        · exact .inr ⟨x, rfl, .inr ⟨by omega, by simp [moreSpecific, hx]⟩⟩
    rcases hmore with ⟨rfl, e⟩ | ⟨x, rfl, ⟨hx, e⟩ | ⟨hx, e⟩⟩ <;> rw [e] at h₁ h₂ <;> have h₄ := h₂ _ rfl
    · refine ⟨.inr ?_, nofun, List.forall_mem_cons.2 ⟨h₄, h₃⟩⟩
      rcases h₁ with h₁ | h₁
      · cases h₁
        exact List.mem_cons_self
      · exact List.mem_cons_of_mem _ h₁
    · refine ⟨.inr ?_, fun y hy => by cases hy; omega, List.forall_mem_cons.2 ⟨h₄, h₃⟩⟩
      rcases h₁ with h₁ | h₁
      · cases h₁
        exact List.mem_cons_self
      · exact List.mem_cons_of_mem _ h₁
    · refine ⟨h₁.imp id (List.mem_cons_of_mem _), fun y hy => by cases hy; exact h₄,
        List.forall_mem_cons.2 ⟨by omega, h₃⟩⟩

theorem mem_opcodeRows (r : Row) : r ∈ opcodeRows := by cases r <;> decide

/-- No row is answered exactly where none matches. -/
theorem bestRow_eq_none_iff (d : Word) : bestRow d = none ↔ ∀ r, rowMatches d r = false := by
  have hsome (l : List Row) (r : Row) : l.foldl moreSpecific (some r) ≠ none := by
    induction l generalizing r with
    | nil => nofun
    | cons a l ih =>
      rw [List.foldl_cons, moreSpecific]
      split <;> exact ih _
  constructor
  · intro h r
    cases hr : rowMatches d r
    · rfl
    · have hm : r ∈ opcodeRows.filter (rowMatches d) := List.mem_filter.2 ⟨mem_opcodeRows r, hr⟩
      unfold bestRow at h
      cases hl : opcodeRows.filter (rowMatches d) with
      | nil => simp [hl] at hm
      | cons a l =>
        rw [hl] at h
        exact absurd h (hsome l a)
  · intro h
    unfold bestRow
    rw [List.filter_eq_nil_iff.2 fun r _ => by simp [h r]]
    rfl

/-- The row that is answered matches, and no row that matches has more mask bits. -/
theorem bestRow_spec {d : Word} {r : Row} (h : bestRow d = some r) :
    rowMatches d r = true ∧ ∀ r', rowMatches d r' = true → maskBits r' ≤ maskBits r := by
  obtain ⟨hm, -, hmax⟩ := foldl_moreSpecific h
  refine ⟨(List.mem_filter.1 (hm.resolve_left nofun)).2, fun r' h' => ?_⟩
  exact hmax r' (List.mem_filter.2 ⟨mem_opcodeRows r', h'⟩)

/-- The decoder by the numbers of the fields. -/
theorem decode_by_fields (c : Config) (op : Operation) :
    decode c op =
      if op.descriptor.toNat / 2 ^ 30 = 3 then .invalid .kindNone
      else if op.descriptor.toNat / 2 ^ 16 % 2 ^ 12 ≠ 0 then .invalid .reservedBits
      else if op.descriptor.toNat / 2 ^ 30 = 2 then
        if op.descriptor.toNat / 2 ^ 28 % 4 ≠ 0 then .invalid .eventSize
        else if op.descriptor.toNat % 2 ^ 16 = 0 then .operation .evTick
        else if op.descriptor.toNat % 2 ^ 16 = 1 then .operation .evPeriod
        else if op.descriptor.toNat % 2 ^ 16 = 2 then .operation .evComplete
        else .invalid .unusedEvent
      else if op.descriptor.toNat / 2 ^ 28 % 4 = 3 then .invalid .sizeNone
      else if op.descriptor.toNat / 2 ^ 28 % 4 ≠ 2 ∨ op.descriptor.toNat % 4 ≠ 0 then .operation (.busError op.descriptor)
      else .operation (decodeMapped c op) := by
  have hlow : ((ofsOf op.descriptor).extractLsb' 0 2).toNat = op.descriptor.toNat % 4 := by
    simp only [BitVec.extractLsb'_toNat, ofsOf_toNat, Nat.shiftRight_zero]
    omega
  simp only [decode, decodeEvent, decodeAccess, ne_eq, ← BitVec.toNat_inj, kindOf_toNat, resOf_toNat,
    accessSizeOf_toNat, ofsOf_toNat, hlow]
  rfl

/-! ### The descriptors the encoder writes -/

theorem channelBits_toNat (i : Channel) : (channelBits i).toNat = 0x20 + 0x10 * i.val := by
  have := i.isLt
  simp only [channelBits, BitVec.toNat_ofNat]
  omega

theorem colorBits_toNat (k : ColorIx) : (colorBits k).toNat = 4 * k.toNat := by
  have := k.isLt
  simp only [colorBits, BitVec.toNat_ofNat]
  omega

theorem pulseBits_toNat (j : PulseIx) : (pulseBits j).toNat = 4 * j.toNat := by
  have := j.isLt
  simp only [pulseBits, BitVec.toNat_ofNat]
  omega

/-- A channel row's word of channel `i`: `0x20 + 0x10 × i` above the row's match. -/
theorem or_channelBits (m : Word) (lo : Nat) (i : Channel) (hlo : lo = m.toNat % 16)
    (hm : m.toNat / 16 % 16 = 0) : (m ||| channelBits i).toNat = m.toNat + 0x20 + 0x10 * i.val := by
  have hi := i.isLt
  obtain ⟨a, ha⟩ : ∃ a, m.toNat = 256 * a + lo := ⟨m.toNat / 256, by omega⟩
  have hlo' : lo < 16 := by omega
  rw [BitVec.toNat_or, channelBits_toNat, ha,
    show (256 * a + lo) = 2 ^ 8 * a ||| lo from Nat.two_pow_add_eq_or_of_lt (i := 8) (by omega) a,
    Nat.or_assoc,
    show lo ||| (0x20 + 0x10 * i.val) = lo + 0x20 + 0x10 * i.val by
      rw [Nat.or_comm, show 0x20 + 0x10 * i.val = 2 ^ 4 * (2 + i.val) by omega,
        ← Nat.two_pow_add_eq_or_of_lt (i := 4) (by omega) (2 + i.val)]
      omega,
    ← Nat.two_pow_add_eq_or_of_lt (i := 8) (by omega) a,
    ← Nat.two_pow_add_eq_or_of_lt (i := 8) (by omega) a]
  omega

theorem or_colorBits (a : Nat) (m : Word) (k : ColorIx) (hm : m.toNat = 2 ^ 14 * a) :
    (m ||| colorBits k).toNat = m.toNat + 4 * k.toNat := by
  have := k.isLt
  rw [BitVec.toNat_or, colorBits_toNat, hm, ← Nat.two_pow_add_eq_or_of_lt (i := 14) (by omega) a]

theorem or_pulseBits (a : Nat) (m : Word) (j : PulseIx) (hm : m.toNat = 2 ^ 15 * a) :
    (m ||| pulseBits j).toNat = m.toNat + 4 * j.toNat := by
  have := j.isLt
  rw [BitVec.toNat_or, pulseBits_toNat, hm, ← Nat.two_pow_add_eq_or_of_lt (i := 15) (by omega) a]

/-- The descriptor of each indexed instruction as a number (40_encoder.md R105 to R110, 42_tick_timestamp.md R143 to
R148), and of every other one: its row's match, or the access's own descriptor. -/
theorem encode_descriptor_toNat (i : Instr) :
    (encode i).descriptor.toNat =
      match i with
      | .rdLast i => 0x20000020 + 0x10 * i.val
      | .rdPeriod i => 0x20000024 + 0x10 * i.val
      | .rdCheck i => 0x20000028 + 0x10 * i.val
      | .wrLast i _ => 0x60000020 + 0x10 * i.val
      | .wrPeriod i _ => 0x60000024 + 0x10 * i.val
      | .wrCheck i _ => 0x60000028 + 0x10 * i.val
      | .rdColor k => 0x20004000 + 4 * k.toNat
      | .wrColor k _ => 0x60004000 + 4 * k.toNat
      | .rdPulse j => 0x20008000 + 4 * j.toNat
      | .wrPulse j _ => 0x60008000 + 4 * j.toNat
      | .busError d => d.toNat
      | .rdCtrl => 0x20000000
      | .rdStatus => 0x20000004
      | .rdFrameLen => 0x20000008
      | .rdTick => 0x2000000C
      | .rdCfg0 => 0x20000010
      | .rdCfg1 => 0x20000014
      | .rdCfg2 => 0x20000018
      | .rdXfer => 0x2000001C
      | .wrCtrl _ => 0x60000000
      | .wrStatus _ => 0x60000004
      | .wrFrameLen _ => 0x60000008
      | .wrTick _ => 0x6000000C
      | .wrCfg0 _ => 0x60000010
      | .wrCfg1 _ => 0x60000014
      | .wrCfg2 _ => 0x60000018
      | .wrXfer _ => 0x6000001C
      | .evTick => 0x80000000
      | .evPeriod => 0x80000001
      | .evComplete => 0x80000002 := by
  cases i
  case rdLast i => exact (or_channelBits 0x20000000 0 i (by decide) (by decide)).trans rfl
  case rdPeriod i => exact (or_channelBits 0x20000004 4 i (by decide) (by decide)).trans rfl
  case rdCheck i => exact (or_channelBits 0x20000008 8 i (by decide) (by decide)).trans rfl
  case wrLast i _ => exact (or_channelBits 0x60000000 0 i (by decide) (by decide)).trans rfl
  case wrPeriod i _ => exact (or_channelBits 0x60000004 4 i (by decide) (by decide)).trans rfl
  case wrCheck i _ => exact (or_channelBits 0x60000008 8 i (by decide) (by decide)).trans rfl
  case rdColor k => exact (or_colorBits 0x8001 0x20004000 k (by decide)).trans rfl
  case wrColor k _ => exact (or_colorBits 0x18001 0x60004000 k (by decide)).trans rfl
  case rdPulse j => exact (or_pulseBits 0x4001 0x20008000 j (by decide)).trans rfl
  case wrPulse j _ => exact (or_pulseBits 0xC001 0x60008000 j (by decide)).trans rfl
  all_goals rfl

end Sys2Proof
end

