-- ==== Sys2Proof/Laws/State.lean ====
section
/-! SUPPORT. One lemma per field per update: what each named update of the state leaves in each field. -/

namespace Sys2Proof.Machine

/-! ### writeColor -/

@[simp] theorem writeColor_cfg (k : Nat) (v : Color) (s : State) : (writeColor k v s).cfg = s.cfg := rfl
@[simp] theorem writeColor_color (k : Nat) (v : Color) (s : State) : (writeColor k v s).color = s.color.set k v := rfl
@[simp] theorem writeColor_pulse (k : Nat) (v : Color) (s : State) : (writeColor k v s).pulse = s.pulse := rfl
@[simp] theorem writeColor_frameLen (k : Nat) (v : Color) (s : State) : (writeColor k v s).frameLen = s.frameLen := rfl
@[simp] theorem writeColor_pulseLen (k : Nat) (v : Color) (s : State) : (writeColor k v s).pulseLen = s.pulseLen := rfl
@[simp] theorem writeColor_idx (k : Nat) (v : Color) (s : State) : (writeColor k v s).idx = s.idx := rfl
@[simp] theorem writeColor_cmp (k : Nat) (v : Color) (s : State) : (writeColor k v s).cmp = s.cmp := rfl
@[simp] theorem writeColor_busy (k : Nat) (v : Color) (s : State) : (writeColor k v s).busy = s.busy := rfl
@[simp] theorem writeColor_tcPend (k : Nat) (v : Color) (s : State) : (writeColor k v s).tcPend = s.tcPend := rfl
@[simp] theorem writeColor_outEn (k : Nat) (v : Color) (s : State) : (writeColor k v s).outEn = s.outEn := rfl
@[simp] theorem writeColor_errBusy (k : Nat) (v : Color) (s : State) : (writeColor k v s).errBusy = s.errBusy := rfl
@[simp] theorem writeColor_errLen (k : Nat) (v : Color) (s : State) : (writeColor k v s).errLen = s.errLen := rfl
@[simp] theorem writeColor_tick (k : Nat) (v : Color) (s : State) : (writeColor k v s).tick = s.tick := rfl
@[simp] theorem writeColor_last (k : Nat) (v : Color) (s : State) : (writeColor k v s).last = s.last := rfl
@[simp] theorem writeColor_line (k : Nat) (v : Color) (s : State) : (writeColor k v s).line = s.line := rfl
@[simp] theorem writeColor_faults (k : Nat) (v : Color) (s : State) : (writeColor k v s).faults = s.faults := rfl
@[simp] theorem writeColor_responses (k : Nat) (v : Color) (s : State) :
    (writeColor k v s).responses = s.responses := rfl
@[simp] theorem writeColor_schedule (k : Nat) (v : Color) (s : State) : (writeColor k v s).schedule = s.schedule := rfl
@[simp] theorem writeColor_draws (k : Nat) (v : Color) (s : State) : (writeColor k v s).draws = s.draws := rfl

/-! ### writeLast -/

@[simp] theorem writeLast_cfg (i : Nat) (v : Word) (s : State) : (writeLast i v s).cfg = s.cfg := rfl
@[simp] theorem writeLast_color (i : Nat) (v : Word) (s : State) : (writeLast i v s).color = s.color := rfl
@[simp] theorem writeLast_pulse (i : Nat) (v : Word) (s : State) : (writeLast i v s).pulse = s.pulse := rfl
@[simp] theorem writeLast_frameLen (i : Nat) (v : Word) (s : State) : (writeLast i v s).frameLen = s.frameLen := rfl
@[simp] theorem writeLast_pulseLen (i : Nat) (v : Word) (s : State) : (writeLast i v s).pulseLen = s.pulseLen := rfl
@[simp] theorem writeLast_idx (i : Nat) (v : Word) (s : State) : (writeLast i v s).idx = s.idx := rfl
@[simp] theorem writeLast_cmp (i : Nat) (v : Word) (s : State) : (writeLast i v s).cmp = s.cmp := rfl
@[simp] theorem writeLast_busy (i : Nat) (v : Word) (s : State) : (writeLast i v s).busy = s.busy := rfl
@[simp] theorem writeLast_tcPend (i : Nat) (v : Word) (s : State) : (writeLast i v s).tcPend = s.tcPend := rfl
@[simp] theorem writeLast_outEn (i : Nat) (v : Word) (s : State) : (writeLast i v s).outEn = s.outEn := rfl
@[simp] theorem writeLast_errBusy (i : Nat) (v : Word) (s : State) : (writeLast i v s).errBusy = s.errBusy := rfl
@[simp] theorem writeLast_errLen (i : Nat) (v : Word) (s : State) : (writeLast i v s).errLen = s.errLen := rfl
@[simp] theorem writeLast_tick (i : Nat) (v : Word) (s : State) : (writeLast i v s).tick = s.tick := rfl
@[simp] theorem writeLast_last (i : Nat) (v : Word) (s : State) : (writeLast i v s).last = s.last.set i v := rfl
@[simp] theorem writeLast_line (i : Nat) (v : Word) (s : State) : (writeLast i v s).line = s.line := rfl
@[simp] theorem writeLast_faults (i : Nat) (v : Word) (s : State) : (writeLast i v s).faults = s.faults := rfl
@[simp] theorem writeLast_responses (i : Nat) (v : Word) (s : State) : (writeLast i v s).responses = s.responses := rfl
@[simp] theorem writeLast_schedule (i : Nat) (v : Word) (s : State) : (writeLast i v s).schedule = s.schedule := rfl
@[simp] theorem writeLast_draws (i : Nat) (v : Word) (s : State) : (writeLast i v s).draws = s.draws := rfl

/-! ### returnData -/

@[simp] theorem returnData_cfg (v : Word) (s : State) : (returnData v s).cfg = s.cfg := rfl
@[simp] theorem returnData_color (v : Word) (s : State) : (returnData v s).color = s.color := rfl
@[simp] theorem returnData_pulse (v : Word) (s : State) : (returnData v s).pulse = s.pulse := rfl
@[simp] theorem returnData_frameLen (v : Word) (s : State) : (returnData v s).frameLen = s.frameLen := rfl
@[simp] theorem returnData_pulseLen (v : Word) (s : State) : (returnData v s).pulseLen = s.pulseLen := rfl
@[simp] theorem returnData_idx (v : Word) (s : State) : (returnData v s).idx = s.idx := rfl
@[simp] theorem returnData_cmp (v : Word) (s : State) : (returnData v s).cmp = s.cmp := rfl
@[simp] theorem returnData_busy (v : Word) (s : State) : (returnData v s).busy = s.busy := rfl
@[simp] theorem returnData_tcPend (v : Word) (s : State) : (returnData v s).tcPend = s.tcPend := rfl
@[simp] theorem returnData_outEn (v : Word) (s : State) : (returnData v s).outEn = s.outEn := rfl
@[simp] theorem returnData_errBusy (v : Word) (s : State) : (returnData v s).errBusy = s.errBusy := rfl
@[simp] theorem returnData_errLen (v : Word) (s : State) : (returnData v s).errLen = s.errLen := rfl
@[simp] theorem returnData_tick (v : Word) (s : State) : (returnData v s).tick = s.tick := rfl
@[simp] theorem returnData_last (v : Word) (s : State) : (returnData v s).last = s.last := rfl
@[simp] theorem returnData_line (v : Word) (s : State) : (returnData v s).line = s.line := rfl
@[simp] theorem returnData_faults (v : Word) (s : State) : (returnData v s).faults = s.faults := rfl
@[simp] theorem returnData_responses (v : Word) (s : State) :
    (returnData v s).responses = s.responses ++ [.data v] := rfl
@[simp] theorem returnData_schedule (v : Word) (s : State) : (returnData v s).schedule = s.schedule := rfl
@[simp] theorem returnData_draws (v : Word) (s : State) : (returnData v s).draws = s.draws := rfl

/-! ### completeWrite -/

@[simp] theorem completeWrite_cfg (s : State) : (completeWrite s).cfg = s.cfg := rfl
@[simp] theorem completeWrite_color (s : State) : (completeWrite s).color = s.color := rfl
@[simp] theorem completeWrite_pulse (s : State) : (completeWrite s).pulse = s.pulse := rfl
@[simp] theorem completeWrite_frameLen (s : State) : (completeWrite s).frameLen = s.frameLen := rfl
@[simp] theorem completeWrite_pulseLen (s : State) : (completeWrite s).pulseLen = s.pulseLen := rfl
@[simp] theorem completeWrite_idx (s : State) : (completeWrite s).idx = s.idx := rfl
@[simp] theorem completeWrite_cmp (s : State) : (completeWrite s).cmp = s.cmp := rfl
@[simp] theorem completeWrite_busy (s : State) : (completeWrite s).busy = s.busy := rfl
@[simp] theorem completeWrite_tcPend (s : State) : (completeWrite s).tcPend = s.tcPend := rfl
@[simp] theorem completeWrite_outEn (s : State) : (completeWrite s).outEn = s.outEn := rfl
@[simp] theorem completeWrite_errBusy (s : State) : (completeWrite s).errBusy = s.errBusy := rfl
@[simp] theorem completeWrite_errLen (s : State) : (completeWrite s).errLen = s.errLen := rfl
@[simp] theorem completeWrite_tick (s : State) : (completeWrite s).tick = s.tick := rfl
@[simp] theorem completeWrite_last (s : State) : (completeWrite s).last = s.last := rfl
@[simp] theorem completeWrite_line (s : State) : (completeWrite s).line = s.line := rfl
@[simp] theorem completeWrite_faults (s : State) : (completeWrite s).faults = s.faults := rfl
@[simp] theorem completeWrite_responses (s : State) : (completeWrite s).responses = s.responses ++ [.written] := rfl
@[simp] theorem completeWrite_schedule (s : State) : (completeWrite s).schedule = s.schedule := rfl
@[simp] theorem completeWrite_draws (s : State) : (completeWrite s).draws = s.draws := rfl

/-! ### raiseBusError -/

@[simp] theorem raiseBusError_cfg (d : Word) (s : State) : (raiseBusError d s).cfg = s.cfg := rfl
@[simp] theorem raiseBusError_color (d : Word) (s : State) : (raiseBusError d s).color = s.color := rfl
@[simp] theorem raiseBusError_pulse (d : Word) (s : State) : (raiseBusError d s).pulse = s.pulse := rfl
@[simp] theorem raiseBusError_frameLen (d : Word) (s : State) : (raiseBusError d s).frameLen = s.frameLen := rfl
@[simp] theorem raiseBusError_pulseLen (d : Word) (s : State) : (raiseBusError d s).pulseLen = s.pulseLen := rfl
@[simp] theorem raiseBusError_idx (d : Word) (s : State) : (raiseBusError d s).idx = s.idx := rfl
@[simp] theorem raiseBusError_cmp (d : Word) (s : State) : (raiseBusError d s).cmp = s.cmp := rfl
@[simp] theorem raiseBusError_busy (d : Word) (s : State) : (raiseBusError d s).busy = s.busy := rfl
@[simp] theorem raiseBusError_tcPend (d : Word) (s : State) : (raiseBusError d s).tcPend = s.tcPend := rfl
@[simp] theorem raiseBusError_outEn (d : Word) (s : State) : (raiseBusError d s).outEn = s.outEn := rfl
@[simp] theorem raiseBusError_errBusy (d : Word) (s : State) : (raiseBusError d s).errBusy = s.errBusy := rfl
@[simp] theorem raiseBusError_errLen (d : Word) (s : State) : (raiseBusError d s).errLen = s.errLen := rfl
@[simp] theorem raiseBusError_tick (d : Word) (s : State) : (raiseBusError d s).tick = s.tick := rfl
@[simp] theorem raiseBusError_last (d : Word) (s : State) : (raiseBusError d s).last = s.last := rfl
@[simp] theorem raiseBusError_line (d : Word) (s : State) : (raiseBusError d s).line = s.line := rfl
@[simp] theorem raiseBusError_faults (d : Word) (s : State) :
    (raiseBusError d s).faults = s.faults ++ [.busError d] := rfl
@[simp] theorem raiseBusError_responses (d : Word) (s : State) :
    (raiseBusError d s).responses = s.responses ++ [.error] := rfl
@[simp] theorem raiseBusError_schedule (d : Word) (s : State) : (raiseBusError d s).schedule = s.schedule := rfl
@[simp] theorem raiseBusError_draws (d : Word) (s : State) : (raiseBusError d s).draws = s.draws := rfl

/-! ### encodeFrame -/

@[simp] theorem encodeFrame_cfg (len : Nat) (s : State) : (encodeFrame len s).cfg = s.cfg := rfl
@[simp] theorem encodeFrame_color (len : Nat) (s : State) : (encodeFrame len s).color = s.color := rfl
@[simp] theorem encodeFrame_pulse (len : Nat) (s : State) :
    (encodeFrame len s).pulse = frameEntries s len ++ s.pulse.drop (24 * len + 1) := rfl
@[simp] theorem encodeFrame_frameLen (len : Nat) (s : State) : (encodeFrame len s).frameLen = s.frameLen := rfl
@[simp] theorem encodeFrame_pulseLen (len : Nat) (s : State) :
    (encodeFrame len s).pulseLen = BitVec.ofNat 16 (24 * len + 1) := rfl
@[simp] theorem encodeFrame_idx (len : Nat) (s : State) : (encodeFrame len s).idx = s.idx := rfl
@[simp] theorem encodeFrame_cmp (len : Nat) (s : State) : (encodeFrame len s).cmp = s.cmp := rfl
@[simp] theorem encodeFrame_busy (len : Nat) (s : State) : (encodeFrame len s).busy = s.busy := rfl
@[simp] theorem encodeFrame_tcPend (len : Nat) (s : State) : (encodeFrame len s).tcPend = s.tcPend := rfl
@[simp] theorem encodeFrame_outEn (len : Nat) (s : State) : (encodeFrame len s).outEn = s.outEn := rfl
@[simp] theorem encodeFrame_errBusy (len : Nat) (s : State) : (encodeFrame len s).errBusy = s.errBusy := rfl
@[simp] theorem encodeFrame_errLen (len : Nat) (s : State) : (encodeFrame len s).errLen = s.errLen := rfl
@[simp] theorem encodeFrame_tick (len : Nat) (s : State) : (encodeFrame len s).tick = s.tick := rfl
@[simp] theorem encodeFrame_last (len : Nat) (s : State) : (encodeFrame len s).last = s.last := rfl
@[simp] theorem encodeFrame_line (len : Nat) (s : State) : (encodeFrame len s).line = s.line := rfl
@[simp] theorem encodeFrame_faults (len : Nat) (s : State) : (encodeFrame len s).faults = s.faults := rfl
@[simp] theorem encodeFrame_responses (len : Nat) (s : State) : (encodeFrame len s).responses = s.responses := rfl
@[simp] theorem encodeFrame_schedule (len : Nat) (s : State) : (encodeFrame len s).schedule = s.schedule := rfl
@[simp] theorem encodeFrame_draws (len : Nat) (s : State) : (encodeFrame len s).draws = s.draws := rfl

/-! ### arm -/

@[simp] theorem arm_cfg (s : State) : (arm s).cfg = s.cfg := rfl
@[simp] theorem arm_color (s : State) : (arm s).color = s.color := rfl
@[simp] theorem arm_pulse (s : State) : (arm s).pulse = s.pulse := rfl
@[simp] theorem arm_frameLen (s : State) : (arm s).frameLen = s.frameLen := rfl
@[simp] theorem arm_pulseLen (s : State) : (arm s).pulseLen = s.pulseLen := rfl
@[simp] theorem arm_idx (s : State) : (arm s).idx = 0 := rfl
@[simp] theorem arm_cmp (s : State) : (arm s).cmp = s.cmp := rfl
@[simp] theorem arm_busy (s : State) : (arm s).busy = true := rfl
@[simp] theorem arm_tcPend (s : State) : (arm s).tcPend = false := rfl
@[simp] theorem arm_outEn (s : State) : (arm s).outEn = true := rfl
@[simp] theorem arm_errBusy (s : State) : (arm s).errBusy = s.errBusy := rfl
@[simp] theorem arm_errLen (s : State) : (arm s).errLen = s.errLen := rfl
@[simp] theorem arm_tick (s : State) : (arm s).tick = s.tick := rfl
@[simp] theorem arm_last (s : State) : (arm s).last = s.last := rfl
@[simp] theorem arm_line (s : State) : (arm s).line = s.line := rfl
@[simp] theorem arm_faults (s : State) : (arm s).faults = s.faults := rfl
@[simp] theorem arm_responses (s : State) : (arm s).responses = s.responses := rfl
@[simp] theorem arm_schedule (s : State) : (arm s).schedule = s.schedule := rfl
@[simp] theorem arm_draws (s : State) : (arm s).draws = s.draws := rfl

/-! ### copyEntry -/

@[simp] theorem copyEntry_cfg (s : State) : (copyEntry s).cfg = s.cfg := rfl
@[simp] theorem copyEntry_color (s : State) : (copyEntry s).color = s.color := rfl
@[simp] theorem copyEntry_pulse (s : State) : (copyEntry s).pulse = s.pulse := rfl
@[simp] theorem copyEntry_frameLen (s : State) : (copyEntry s).frameLen = s.frameLen := rfl
@[simp] theorem copyEntry_pulseLen (s : State) : (copyEntry s).pulseLen = s.pulseLen := rfl
@[simp] theorem copyEntry_idx (s : State) : (copyEntry s).idx = s.idx + 1 := rfl
@[simp] theorem copyEntry_cmp (s : State) : (copyEntry s).cmp = readPulse s s.idx.toNat := rfl
@[simp] theorem copyEntry_busy (s : State) : (copyEntry s).busy = s.busy := rfl
@[simp] theorem copyEntry_tcPend (s : State) :
    (copyEntry s).tcPend = if s.idx + 1 = s.pulseLen then true else s.tcPend := rfl
@[simp] theorem copyEntry_outEn (s : State) : (copyEntry s).outEn = s.outEn := rfl
@[simp] theorem copyEntry_errBusy (s : State) : (copyEntry s).errBusy = s.errBusy := rfl
@[simp] theorem copyEntry_errLen (s : State) : (copyEntry s).errLen = s.errLen := rfl
@[simp] theorem copyEntry_tick (s : State) : (copyEntry s).tick = s.tick := rfl
@[simp] theorem copyEntry_last (s : State) : (copyEntry s).last = s.last := rfl
@[simp] theorem copyEntry_line (s : State) : (copyEntry s).line = s.line := rfl
@[simp] theorem copyEntry_faults (s : State) : (copyEntry s).faults = s.faults := rfl
@[simp] theorem copyEntry_responses (s : State) : (copyEntry s).responses = s.responses := rfl
@[simp] theorem copyEntry_schedule (s : State) : (copyEntry s).schedule = s.schedule := rfl
@[simp] theorem copyEntry_draws (s : State) : (copyEntry s).draws = s.draws := rfl

/-! ### appendPeriod -/

@[simp] theorem appendPeriod_cfg (s : State) : (appendPeriod s).cfg = s.cfg := rfl
@[simp] theorem appendPeriod_color (s : State) : (appendPeriod s).color = s.color := rfl
@[simp] theorem appendPeriod_pulse (s : State) : (appendPeriod s).pulse = s.pulse := rfl
@[simp] theorem appendPeriod_frameLen (s : State) : (appendPeriod s).frameLen = s.frameLen := rfl
@[simp] theorem appendPeriod_pulseLen (s : State) : (appendPeriod s).pulseLen = s.pulseLen := rfl
@[simp] theorem appendPeriod_idx (s : State) : (appendPeriod s).idx = s.idx := rfl
@[simp] theorem appendPeriod_cmp (s : State) : (appendPeriod s).cmp = s.cmp := rfl
@[simp] theorem appendPeriod_busy (s : State) : (appendPeriod s).busy = s.busy := rfl
@[simp] theorem appendPeriod_tcPend (s : State) : (appendPeriod s).tcPend = s.tcPend := rfl
@[simp] theorem appendPeriod_outEn (s : State) : (appendPeriod s).outEn = s.outEn := rfl
@[simp] theorem appendPeriod_errBusy (s : State) : (appendPeriod s).errBusy = s.errBusy := rfl
@[simp] theorem appendPeriod_errLen (s : State) : (appendPeriod s).errLen = s.errLen := rfl
@[simp] theorem appendPeriod_tick (s : State) : (appendPeriod s).tick = s.tick := rfl
@[simp] theorem appendPeriod_last (s : State) : (appendPeriod s).last = s.last := rfl
@[simp] theorem appendPeriod_line (s : State) : (appendPeriod s).line = s.line ++ [s.cmp] := rfl
@[simp] theorem appendPeriod_faults (s : State) : (appendPeriod s).faults = s.faults := rfl
@[simp] theorem appendPeriod_responses (s : State) : (appendPeriod s).responses = s.responses := rfl
@[simp] theorem appendPeriod_schedule (s : State) : (appendPeriod s).schedule = s.schedule := rfl
@[simp] theorem appendPeriod_draws (s : State) : (appendPeriod s).draws = s.draws := rfl

/-! ### finishFrame -/

@[simp] theorem finishFrame_cfg (s : State) : (finishFrame s).cfg = s.cfg := rfl
@[simp] theorem finishFrame_color (s : State) : (finishFrame s).color = s.color := rfl
@[simp] theorem finishFrame_pulse (s : State) : (finishFrame s).pulse = s.pulse := rfl
@[simp] theorem finishFrame_frameLen (s : State) : (finishFrame s).frameLen = s.frameLen := rfl
@[simp] theorem finishFrame_pulseLen (s : State) : (finishFrame s).pulseLen = s.pulseLen := rfl
@[simp] theorem finishFrame_idx (s : State) : (finishFrame s).idx = s.idx := rfl
@[simp] theorem finishFrame_cmp (s : State) : (finishFrame s).cmp = s.cmp := rfl
@[simp] theorem finishFrame_busy (s : State) : (finishFrame s).busy = false := rfl
@[simp] theorem finishFrame_tcPend (s : State) : (finishFrame s).tcPend = false := rfl
@[simp] theorem finishFrame_outEn (s : State) : (finishFrame s).outEn = false := rfl
@[simp] theorem finishFrame_errBusy (s : State) : (finishFrame s).errBusy = s.errBusy := rfl
@[simp] theorem finishFrame_errLen (s : State) : (finishFrame s).errLen = s.errLen := rfl
@[simp] theorem finishFrame_tick (s : State) : (finishFrame s).tick = s.tick := rfl
@[simp] theorem finishFrame_last (s : State) : (finishFrame s).last = s.last := rfl
@[simp] theorem finishFrame_line (s : State) : (finishFrame s).line = s.line := rfl
@[simp] theorem finishFrame_faults (s : State) : (finishFrame s).faults = s.faults := rfl
@[simp] theorem finishFrame_responses (s : State) : (finishFrame s).responses = s.responses := rfl
@[simp] theorem finishFrame_schedule (s : State) : (finishFrame s).schedule = s.schedule := rfl
@[simp] theorem finishFrame_draws (s : State) : (finishFrame s).draws = s.draws := rfl

/-! ### setFrameLen -/

@[simp] theorem setFrameLen_cfg (v : Half) (s : State) : (setFrameLen v s).cfg = s.cfg := rfl
@[simp] theorem setFrameLen_color (v : Half) (s : State) : (setFrameLen v s).color = s.color := rfl
@[simp] theorem setFrameLen_pulse (v : Half) (s : State) : (setFrameLen v s).pulse = s.pulse := rfl
@[simp] theorem setFrameLen_frameLen (v : Half) (s : State) : (setFrameLen v s).frameLen = v := rfl
@[simp] theorem setFrameLen_pulseLen (v : Half) (s : State) : (setFrameLen v s).pulseLen = s.pulseLen := rfl
@[simp] theorem setFrameLen_idx (v : Half) (s : State) : (setFrameLen v s).idx = s.idx := rfl
@[simp] theorem setFrameLen_cmp (v : Half) (s : State) : (setFrameLen v s).cmp = s.cmp := rfl
@[simp] theorem setFrameLen_busy (v : Half) (s : State) : (setFrameLen v s).busy = s.busy := rfl
@[simp] theorem setFrameLen_tcPend (v : Half) (s : State) : (setFrameLen v s).tcPend = s.tcPend := rfl
@[simp] theorem setFrameLen_outEn (v : Half) (s : State) : (setFrameLen v s).outEn = s.outEn := rfl
@[simp] theorem setFrameLen_errBusy (v : Half) (s : State) : (setFrameLen v s).errBusy = s.errBusy := rfl
@[simp] theorem setFrameLen_errLen (v : Half) (s : State) : (setFrameLen v s).errLen = s.errLen := rfl
@[simp] theorem setFrameLen_tick (v : Half) (s : State) : (setFrameLen v s).tick = s.tick := rfl
@[simp] theorem setFrameLen_last (v : Half) (s : State) : (setFrameLen v s).last = s.last := rfl
@[simp] theorem setFrameLen_line (v : Half) (s : State) : (setFrameLen v s).line = s.line := rfl
@[simp] theorem setFrameLen_faults (v : Half) (s : State) : (setFrameLen v s).faults = s.faults := rfl
@[simp] theorem setFrameLen_responses (v : Half) (s : State) : (setFrameLen v s).responses = s.responses := rfl
@[simp] theorem setFrameLen_schedule (v : Half) (s : State) : (setFrameLen v s).schedule = s.schedule := rfl
@[simp] theorem setFrameLen_draws (v : Half) (s : State) : (setFrameLen v s).draws = s.draws := rfl

/-! ### setTick -/

@[simp] theorem setTick_cfg (v : Word) (s : State) : (setTick v s).cfg = s.cfg := rfl
@[simp] theorem setTick_color (v : Word) (s : State) : (setTick v s).color = s.color := rfl
@[simp] theorem setTick_pulse (v : Word) (s : State) : (setTick v s).pulse = s.pulse := rfl
@[simp] theorem setTick_frameLen (v : Word) (s : State) : (setTick v s).frameLen = s.frameLen := rfl
@[simp] theorem setTick_pulseLen (v : Word) (s : State) : (setTick v s).pulseLen = s.pulseLen := rfl
@[simp] theorem setTick_idx (v : Word) (s : State) : (setTick v s).idx = s.idx := rfl
@[simp] theorem setTick_cmp (v : Word) (s : State) : (setTick v s).cmp = s.cmp := rfl
@[simp] theorem setTick_busy (v : Word) (s : State) : (setTick v s).busy = s.busy := rfl
@[simp] theorem setTick_tcPend (v : Word) (s : State) : (setTick v s).tcPend = s.tcPend := rfl
@[simp] theorem setTick_outEn (v : Word) (s : State) : (setTick v s).outEn = s.outEn := rfl
@[simp] theorem setTick_errBusy (v : Word) (s : State) : (setTick v s).errBusy = s.errBusy := rfl
@[simp] theorem setTick_errLen (v : Word) (s : State) : (setTick v s).errLen = s.errLen := rfl
@[simp] theorem setTick_tick (v : Word) (s : State) : (setTick v s).tick = v := rfl
@[simp] theorem setTick_last (v : Word) (s : State) : (setTick v s).last = s.last := rfl
@[simp] theorem setTick_line (v : Word) (s : State) : (setTick v s).line = s.line := rfl
@[simp] theorem setTick_faults (v : Word) (s : State) : (setTick v s).faults = s.faults := rfl
@[simp] theorem setTick_responses (v : Word) (s : State) : (setTick v s).responses = s.responses := rfl
@[simp] theorem setTick_schedule (v : Word) (s : State) : (setTick v s).schedule = s.schedule := rfl
@[simp] theorem setTick_draws (v : Word) (s : State) : (setTick v s).draws = s.draws := rfl

/-! ### clearErrors -/

@[simp] theorem clearErrors_cfg (s : State) : (clearErrors s).cfg = s.cfg := rfl
@[simp] theorem clearErrors_color (s : State) : (clearErrors s).color = s.color := rfl
@[simp] theorem clearErrors_pulse (s : State) : (clearErrors s).pulse = s.pulse := rfl
@[simp] theorem clearErrors_frameLen (s : State) : (clearErrors s).frameLen = s.frameLen := rfl
@[simp] theorem clearErrors_pulseLen (s : State) : (clearErrors s).pulseLen = s.pulseLen := rfl
@[simp] theorem clearErrors_idx (s : State) : (clearErrors s).idx = s.idx := rfl
@[simp] theorem clearErrors_cmp (s : State) : (clearErrors s).cmp = s.cmp := rfl
@[simp] theorem clearErrors_busy (s : State) : (clearErrors s).busy = s.busy := rfl
@[simp] theorem clearErrors_tcPend (s : State) : (clearErrors s).tcPend = s.tcPend := rfl
@[simp] theorem clearErrors_outEn (s : State) : (clearErrors s).outEn = s.outEn := rfl
@[simp] theorem clearErrors_errBusy (s : State) : (clearErrors s).errBusy = false := rfl
@[simp] theorem clearErrors_errLen (s : State) : (clearErrors s).errLen = false := rfl
@[simp] theorem clearErrors_tick (s : State) : (clearErrors s).tick = s.tick := rfl
@[simp] theorem clearErrors_last (s : State) : (clearErrors s).last = s.last := rfl
@[simp] theorem clearErrors_line (s : State) : (clearErrors s).line = s.line := rfl
@[simp] theorem clearErrors_faults (s : State) : (clearErrors s).faults = s.faults := rfl
@[simp] theorem clearErrors_responses (s : State) : (clearErrors s).responses = s.responses := rfl
@[simp] theorem clearErrors_schedule (s : State) : (clearErrors s).schedule = s.schedule := rfl
@[simp] theorem clearErrors_draws (s : State) : (clearErrors s).draws = s.draws := rfl

/-! ### flagBusy -/

@[simp] theorem flagBusy_cfg (s : State) : (flagBusy s).cfg = s.cfg := rfl
@[simp] theorem flagBusy_color (s : State) : (flagBusy s).color = s.color := rfl
@[simp] theorem flagBusy_pulse (s : State) : (flagBusy s).pulse = s.pulse := rfl
@[simp] theorem flagBusy_frameLen (s : State) : (flagBusy s).frameLen = s.frameLen := rfl
@[simp] theorem flagBusy_pulseLen (s : State) : (flagBusy s).pulseLen = s.pulseLen := rfl
@[simp] theorem flagBusy_idx (s : State) : (flagBusy s).idx = s.idx := rfl
@[simp] theorem flagBusy_cmp (s : State) : (flagBusy s).cmp = s.cmp := rfl
@[simp] theorem flagBusy_busy (s : State) : (flagBusy s).busy = s.busy := rfl
@[simp] theorem flagBusy_tcPend (s : State) : (flagBusy s).tcPend = s.tcPend := rfl
@[simp] theorem flagBusy_outEn (s : State) : (flagBusy s).outEn = s.outEn := rfl
@[simp] theorem flagBusy_errBusy (s : State) : (flagBusy s).errBusy = true := rfl
@[simp] theorem flagBusy_errLen (s : State) : (flagBusy s).errLen = s.errLen := rfl
@[simp] theorem flagBusy_tick (s : State) : (flagBusy s).tick = s.tick := rfl
@[simp] theorem flagBusy_last (s : State) : (flagBusy s).last = s.last := rfl
@[simp] theorem flagBusy_line (s : State) : (flagBusy s).line = s.line := rfl
@[simp] theorem flagBusy_faults (s : State) : (flagBusy s).faults = s.faults := rfl
@[simp] theorem flagBusy_responses (s : State) : (flagBusy s).responses = s.responses := rfl
@[simp] theorem flagBusy_schedule (s : State) : (flagBusy s).schedule = s.schedule := rfl
@[simp] theorem flagBusy_draws (s : State) : (flagBusy s).draws = s.draws := rfl

/-! ### flagLen -/

@[simp] theorem flagLen_cfg (s : State) : (flagLen s).cfg = s.cfg := rfl
@[simp] theorem flagLen_color (s : State) : (flagLen s).color = s.color := rfl
@[simp] theorem flagLen_pulse (s : State) : (flagLen s).pulse = s.pulse := rfl
@[simp] theorem flagLen_frameLen (s : State) : (flagLen s).frameLen = s.frameLen := rfl
@[simp] theorem flagLen_pulseLen (s : State) : (flagLen s).pulseLen = s.pulseLen := rfl
@[simp] theorem flagLen_idx (s : State) : (flagLen s).idx = s.idx := rfl
@[simp] theorem flagLen_cmp (s : State) : (flagLen s).cmp = s.cmp := rfl
@[simp] theorem flagLen_busy (s : State) : (flagLen s).busy = s.busy := rfl
@[simp] theorem flagLen_tcPend (s : State) : (flagLen s).tcPend = s.tcPend := rfl
@[simp] theorem flagLen_outEn (s : State) : (flagLen s).outEn = s.outEn := rfl
@[simp] theorem flagLen_errBusy (s : State) : (flagLen s).errBusy = s.errBusy := rfl
@[simp] theorem flagLen_errLen (s : State) : (flagLen s).errLen = true := rfl
@[simp] theorem flagLen_tick (s : State) : (flagLen s).tick = s.tick := rfl
@[simp] theorem flagLen_last (s : State) : (flagLen s).last = s.last := rfl
@[simp] theorem flagLen_line (s : State) : (flagLen s).line = s.line := rfl
@[simp] theorem flagLen_faults (s : State) : (flagLen s).faults = s.faults := rfl
@[simp] theorem flagLen_responses (s : State) : (flagLen s).responses = s.responses := rfl
@[simp] theorem flagLen_schedule (s : State) : (flagLen s).schedule = s.schedule := rfl
@[simp] theorem flagLen_draws (s : State) : (flagLen s).draws = s.draws := rfl

/-! ### popInput -/

@[simp] theorem popInput_cfg (s : State) : (popInput s).cfg = s.cfg := rfl
@[simp] theorem popInput_color (s : State) : (popInput s).color = s.color := rfl
@[simp] theorem popInput_pulse (s : State) : (popInput s).pulse = s.pulse := rfl
@[simp] theorem popInput_frameLen (s : State) : (popInput s).frameLen = s.frameLen := rfl
@[simp] theorem popInput_pulseLen (s : State) : (popInput s).pulseLen = s.pulseLen := rfl
@[simp] theorem popInput_idx (s : State) : (popInput s).idx = s.idx := rfl
@[simp] theorem popInput_cmp (s : State) : (popInput s).cmp = s.cmp := rfl
@[simp] theorem popInput_busy (s : State) : (popInput s).busy = s.busy := rfl
@[simp] theorem popInput_tcPend (s : State) : (popInput s).tcPend = s.tcPend := rfl
@[simp] theorem popInput_outEn (s : State) : (popInput s).outEn = s.outEn := rfl
@[simp] theorem popInput_errBusy (s : State) : (popInput s).errBusy = s.errBusy := rfl
@[simp] theorem popInput_errLen (s : State) : (popInput s).errLen = s.errLen := rfl
@[simp] theorem popInput_tick (s : State) : (popInput s).tick = s.tick := rfl
@[simp] theorem popInput_last (s : State) : (popInput s).last = s.last := rfl
@[simp] theorem popInput_line (s : State) : (popInput s).line = s.line := rfl
@[simp] theorem popInput_faults (s : State) : (popInput s).faults = s.faults := rfl
@[simp] theorem popInput_responses (s : State) : (popInput s).responses = s.responses := rfl
@[simp] theorem popInput_schedule (s : State) : (popInput s).schedule = s.schedule.tail := rfl
@[simp] theorem popInput_draws (s : State) : (popInput s).draws = s.draws := rfl

/-! ### takeDraw -/

@[simp] theorem takeDraw_cfg (s : State) : (takeDraw s).cfg = s.cfg := rfl
@[simp] theorem takeDraw_color (s : State) : (takeDraw s).color = s.color := rfl
@[simp] theorem takeDraw_pulse (s : State) : (takeDraw s).pulse = s.pulse := rfl
@[simp] theorem takeDraw_frameLen (s : State) : (takeDraw s).frameLen = s.frameLen := rfl
@[simp] theorem takeDraw_pulseLen (s : State) : (takeDraw s).pulseLen = s.pulseLen := rfl
@[simp] theorem takeDraw_idx (s : State) : (takeDraw s).idx = s.idx := rfl
@[simp] theorem takeDraw_cmp (s : State) : (takeDraw s).cmp = s.cmp := rfl
@[simp] theorem takeDraw_busy (s : State) : (takeDraw s).busy = s.busy := rfl
@[simp] theorem takeDraw_tcPend (s : State) : (takeDraw s).tcPend = s.tcPend := rfl
@[simp] theorem takeDraw_outEn (s : State) : (takeDraw s).outEn = s.outEn := rfl
@[simp] theorem takeDraw_errBusy (s : State) : (takeDraw s).errBusy = s.errBusy := rfl
@[simp] theorem takeDraw_errLen (s : State) : (takeDraw s).errLen = s.errLen := rfl
@[simp] theorem takeDraw_tick (s : State) : (takeDraw s).tick = s.tick := rfl
@[simp] theorem takeDraw_last (s : State) : (takeDraw s).last = s.last := rfl
@[simp] theorem takeDraw_line (s : State) : (takeDraw s).line = s.line := rfl
@[simp] theorem takeDraw_faults (s : State) : (takeDraw s).faults = s.faults := rfl
@[simp] theorem takeDraw_responses (s : State) : (takeDraw s).responses = s.responses := rfl
@[simp] theorem takeDraw_schedule (s : State) : (takeDraw s).schedule = s.schedule := rfl
@[simp] theorem takeDraw_draws (s : State) : (takeDraw s).draws = s.draws + 1 := rfl

/-! ### pushOperation -/

@[simp] theorem pushOperation_cfg (op : Operation) (s : State) : (pushOperation op s).cfg = s.cfg := rfl
@[simp] theorem pushOperation_color (op : Operation) (s : State) : (pushOperation op s).color = s.color := rfl
@[simp] theorem pushOperation_pulse (op : Operation) (s : State) : (pushOperation op s).pulse = s.pulse := rfl
@[simp] theorem pushOperation_frameLen (op : Operation) (s : State) : (pushOperation op s).frameLen = s.frameLen := rfl
@[simp] theorem pushOperation_pulseLen (op : Operation) (s : State) : (pushOperation op s).pulseLen = s.pulseLen := rfl
@[simp] theorem pushOperation_idx (op : Operation) (s : State) : (pushOperation op s).idx = s.idx := rfl
@[simp] theorem pushOperation_cmp (op : Operation) (s : State) : (pushOperation op s).cmp = s.cmp := rfl
@[simp] theorem pushOperation_busy (op : Operation) (s : State) : (pushOperation op s).busy = s.busy := rfl
@[simp] theorem pushOperation_tcPend (op : Operation) (s : State) : (pushOperation op s).tcPend = s.tcPend := rfl
@[simp] theorem pushOperation_outEn (op : Operation) (s : State) : (pushOperation op s).outEn = s.outEn := rfl
@[simp] theorem pushOperation_errBusy (op : Operation) (s : State) : (pushOperation op s).errBusy = s.errBusy := rfl
@[simp] theorem pushOperation_errLen (op : Operation) (s : State) : (pushOperation op s).errLen = s.errLen := rfl
@[simp] theorem pushOperation_tick (op : Operation) (s : State) : (pushOperation op s).tick = s.tick := rfl
@[simp] theorem pushOperation_last (op : Operation) (s : State) : (pushOperation op s).last = s.last := rfl
@[simp] theorem pushOperation_line (op : Operation) (s : State) : (pushOperation op s).line = s.line := rfl
@[simp] theorem pushOperation_faults (op : Operation) (s : State) : (pushOperation op s).faults = s.faults := rfl
@[simp] theorem pushOperation_responses (op : Operation) (s : State) :
    (pushOperation op s).responses = s.responses := rfl
@[simp] theorem pushOperation_schedule (op : Operation) (s : State) :
    (pushOperation op s).schedule = .operation op :: s.schedule := rfl
@[simp] theorem pushOperation_draws (op : Operation) (s : State) : (pushOperation op s).draws = s.draws := rfl

/-- An ignored write completes as any other write does. -/
@[simp] theorem ignoreWrite_eq (s : State) : ignoreWrite s = completeWrite s := rfl

/-! ### Reset -/

@[simp] theorem resetWith_cfg (c : Config) (n : Nat) : (State.resetWith c n).cfg = c := rfl
@[simp] theorem resetWith_color (c : Config) (n : Nat) :
    (State.resetWith c n).color = (List.range c.nLeds).map (Config.drawColor n) := rfl
@[simp] theorem resetWith_pulse (c : Config) (n : Nat) :
    (State.resetWith c n).pulse = (List.range c.pulseCap).map (Config.drawPulse n) := rfl
@[simp] theorem resetWith_frameLen (c : Config) (n : Nat) :
    (State.resetWith c n).frameLen = BitVec.ofNat 16 c.nLeds := rfl
@[simp] theorem resetWith_pulseLen (c : Config) (n : Nat) : (State.resetWith c n).pulseLen = 0 := rfl
@[simp] theorem resetWith_idx (c : Config) (n : Nat) : (State.resetWith c n).idx = 0 := rfl
@[simp] theorem resetWith_cmp (c : Config) (n : Nat) : (State.resetWith c n).cmp = 0 := rfl
@[simp] theorem resetWith_busy (c : Config) (n : Nat) : (State.resetWith c n).busy = false := rfl
@[simp] theorem resetWith_tcPend (c : Config) (n : Nat) : (State.resetWith c n).tcPend = false := rfl
@[simp] theorem resetWith_outEn (c : Config) (n : Nat) : (State.resetWith c n).outEn = false := rfl
@[simp] theorem resetWith_errBusy (c : Config) (n : Nat) : (State.resetWith c n).errBusy = false := rfl
@[simp] theorem resetWith_errLen (c : Config) (n : Nat) : (State.resetWith c n).errLen = false := rfl
@[simp] theorem resetWith_tick (c : Config) (n : Nat) : (State.resetWith c n).tick = 0 := rfl
@[simp] theorem resetWith_last (c : Config) (n : Nat) : (State.resetWith c n).last = List.replicate c.nTasks 0 := rfl
@[simp] theorem resetWith_line (c : Config) (n : Nat) : (State.resetWith c n).line = [] := rfl
@[simp] theorem resetWith_faults (c : Config) (n : Nat) : (State.resetWith c n).faults = [] := rfl
@[simp] theorem resetWith_responses (c : Config) (n : Nat) : (State.resetWith c n).responses = [] := rfl
@[simp] theorem resetWith_schedule (c : Config) (n : Nat) : (State.resetWith c n).schedule = [] := rfl
@[simp] theorem resetWith_draws (c : Config) (n : Nat) : (State.resetWith c n).draws = n + 1 := rfl

/-! ### assertReset -/

@[simp] theorem assertReset_cfg (s : State) : (assertReset s).cfg = s.cfg := rfl
@[simp] theorem assertReset_color (s : State) :
    (assertReset s).color = (List.range s.cfg.nLeds).map (Config.drawColor s.draws) := rfl
@[simp] theorem assertReset_pulse (s : State) :
    (assertReset s).pulse = (List.range s.cfg.pulseCap).map (Config.drawPulse s.draws) := rfl
@[simp] theorem assertReset_frameLen (s : State) : (assertReset s).frameLen = BitVec.ofNat 16 s.cfg.nLeds := rfl
@[simp] theorem assertReset_pulseLen (s : State) : (assertReset s).pulseLen = 0 := rfl
@[simp] theorem assertReset_idx (s : State) : (assertReset s).idx = 0 := rfl
@[simp] theorem assertReset_cmp (s : State) : (assertReset s).cmp = 0 := rfl
@[simp] theorem assertReset_busy (s : State) : (assertReset s).busy = false := rfl
@[simp] theorem assertReset_tcPend (s : State) : (assertReset s).tcPend = false := rfl
@[simp] theorem assertReset_outEn (s : State) : (assertReset s).outEn = false := rfl
@[simp] theorem assertReset_errBusy (s : State) : (assertReset s).errBusy = false := rfl
@[simp] theorem assertReset_errLen (s : State) : (assertReset s).errLen = false := rfl
@[simp] theorem assertReset_tick (s : State) : (assertReset s).tick = 0 := rfl
@[simp] theorem assertReset_last (s : State) : (assertReset s).last = List.replicate s.cfg.nTasks 0 := rfl
@[simp] theorem assertReset_line (s : State) : (assertReset s).line = [] := rfl
@[simp] theorem assertReset_faults (s : State) : (assertReset s).faults = [] := rfl
@[simp] theorem assertReset_responses (s : State) : (assertReset s).responses = [] := rfl
@[simp] theorem assertReset_schedule (s : State) : (assertReset s).schedule = s.schedule := rfl
@[simp] theorem assertReset_draws (s : State) : (assertReset s).draws = s.draws + 1 := rfl

end Sys2Proof.Machine
end

