-- ==== Sys2Proof/Laws/Ops.lean ====
section
/-! SUPPORT. What each shared operation does, said once: read after write on the arrays, the entries of a frame, the
command's cases, the fetch's cases, and that every operation over the arrays keeps their canonical form. -/

namespace Sys2Proof.Machine

/-! ### Read after write -/

theorem readColor_writeColor_same (k : Nat) (v : Color) (s : State) (h : k < s.color.length) :
    readColor (writeColor k v s) k = v := by
  simp [readColor, h]

theorem readColor_writeColor_other (k k' : Nat) (v : Color) (s : State) (h : k' ≠ k) :
    readColor (writeColor k v s) k' = readColor s k' := by
  simp [readColor, List.getD, List.getElem?_set_ne h.symm]

theorem readLast_writeLast_same (i : Nat) (v : Word) (s : State) (h : i < s.last.length) :
    readLast (writeLast i v s) i = v := by
  simp [readLast, h]

theorem readLast_writeLast_other (i i' : Nat) (v : Word) (s : State) (h : i' ≠ i) :
    readLast (writeLast i v s) i' = readLast s i' := by
  simp [readLast, List.getD, List.getElem?_set_ne h.symm]

/-! ### The entries of a frame (40_encoder.md R103) -/

@[simp] theorem colorEntries_length (c : Config) (w : Color) : (colorEntries c w).length = 24 := by
  simp [colorEntries]

theorem colorEntries_get (c : Config) (w : Color) (b : Nat) (h : b < 24) :
    (colorEntries c w)[b]? = some (dutyOf c (w.getLsbD (23 - b))) := by
  simp [colorEntries, h]

/-- The entries of `n` colour words, one block of 24 after the other. -/
theorem colorBlocks_length (f : Nat → List Half) (hf : ∀ n, (f n).length = 24) (len : Nat) :
    ((List.range len).flatMap f).length = 24 * len := by
  induction len with
  | zero => rfl
  | succ n ih => simp [List.range_succ, ih, hf]; omega

theorem colorBlocks_get (f : Nat → List Half) (hf : ∀ n, (f n).length = 24) (len p : Nat) (h : p < 24 * len) :
    ((List.range len).flatMap f)[p]? = (f (p / 24))[p % 24]? := by
  induction len with
  | zero => omega
  | succ n ih =>
    rw [List.range_succ, List.flatMap_append]
    by_cases hp : p < 24 * n
    · rw [List.getElem?_append_left (by rw [colorBlocks_length f hf]; exact hp), ih hp]
    · rw [List.getElem?_append_right (by rw [colorBlocks_length f hf]; omega), colorBlocks_length f hf]
      have h₁ : p / 24 = n := by omega
      have h₂ : p - 24 * n = p % 24 := by omega
      simp [h₁, h₂]

@[simp] theorem frameEntries_length (s : State) (len : Nat) : (frameEntries s len).length = 24 * len + 1 := by
  simp [frameEntries, -List.length_flatMap, colorBlocks_length]

theorem frameEntries_bit (s : State) (len p : Nat) (h : p < 24 * len) :
    (frameEntries s len)[p]? = some (dutyOf s.cfg ((readColor s (p / 24)).getLsbD (23 - p % 24))) := by
  rw [frameEntries, List.getElem?_append_left (by rw [colorBlocks_length _ (fun n => by simp)]; exact h),
    colorBlocks_get _ (fun n => by simp) _ _ h]
  exact colorEntries_get _ _ _ (by omega)

theorem frameEntries_terminator (s : State) (len : Nat) : (frameEntries s len)[24 * len]? = some 0 := by
  rw [frameEntries, List.getElem?_append_right (by rw [colorBlocks_length _ (fun n => by simp)]),
    colorBlocks_length _ (fun n => by simp)]
  simp

/-- What `encode(L)` leaves in an entry of the frame. -/
theorem readPulse_encodeFrame_bit (s : State) (len p : Nat) (h : p < 24 * len) :
    readPulse (encodeFrame len s) p = dutyOf s.cfg ((readColor s (p / 24)).getLsbD (23 - p % 24)) := by
  simp only [readPulse, encodeFrame_pulse, List.getD]
  rw [List.getElem?_append_left (by rw [frameEntries_length]; omega), frameEntries_bit s len p h]
  rfl

theorem readPulse_encodeFrame_terminator (s : State) (len : Nat) : readPulse (encodeFrame len s) (24 * len) = 0 := by
  simp only [readPulse, encodeFrame_pulse, List.getD]
  rw [List.getElem?_append_left (by rw [frameEntries_length]; omega), frameEntries_terminator]
  rfl

/-- `encode(L)` writes no entry at index `24L + 1` or above (R112). -/
theorem readPulse_encodeFrame_above (s : State) (len p : Nat) (h : 24 * len < p) :
    readPulse (encodeFrame len s) p = readPulse s p := by
  simp only [readPulse, encodeFrame_pulse, List.getD]
  rw [List.getElem?_append_right (by rw [frameEntries_length]; omega), frameEntries_length, List.getElem?_drop]
  congr 2
  omega

/-! ### The canonical form of the arrays -/

theorem writeColor_keeps_ramWf (k : Nat) (v : Color) (s : State) (h : s.RamWf) : (writeColor k v s).RamWf := by
  simpa [State.RamWf] using h

theorem writeLast_keeps_ramWf (i : Nat) (v : Word) (s : State) (h : s.RamWf) : (writeLast i v s).RamWf := by
  simpa [State.RamWf] using h

theorem encodeFrame_keeps_ramWf (len : Nat) (s : State) (h : s.RamWf) (hl : len ≤ s.cfg.nLeds) :
    (encodeFrame len s).RamWf := by
  obtain ⟨hc, hp, hl'⟩ := h
  refine ⟨hc, ?_, hl'⟩
  simp only [encodeFrame_pulse, List.length_append, frameEntries_length, List.length_drop, encodeFrame_cfg, hp,
    Config.pulseCap]
  omega

theorem resetWith_ramWf (c : Config) (n : Nat) : (State.resetWith c n).RamWf := by
  simp [State.RamWf]

theorem assertReset_ramWf (s : State) : (assertReset s).RamWf := by
  simp [State.RamWf]

theorem reset_ramWf : State.reset.RamWf := resetWith_ramWf _ _

/-- What the array reads give after reset: the draws of `COLOR` (10_state.md R23). -/
theorem readColor_resetWith (c : Config) (n k : Nat) (h : k < c.nLeds) :
    readColor (State.resetWith c n) k = Config.drawColor n k := by
  simp [readColor, h]

/-- What the array reads give after reset: the draws of `PULSE` (R24). -/
theorem readPulse_resetWith (c : Config) (n j : Nat) (h : j < c.pulseCap) :
    readPulse (State.resetWith c n) j = Config.drawPulse n j := by
  simp [readPulse, h]

/-! ### Indexed accesses -/

theorem onIndexed_present (i : Instr) (effect : State → State) (s : State) : onIndexed i true effect s = effect s :=
  rfl

theorem onIndexed_absent (i : Instr) (effect : State → State) (s : State) :
    onIndexed i false effect s = raiseBusError (encode i).descriptor s := rfl

/-- All that an indexed access can do. -/
theorem onIndexed_cases (i : Instr) (present : Bool) (effect : State → State) (s : State) :
    (present = true ∧ onIndexed i present effect s = effect s) ∨
      (present = false ∧ onIndexed i present effect s = raiseBusError (encode i).descriptor s) := by
  cases present
  · exact .inr ⟨rfl, rfl⟩
  · exact .inl ⟨rfl, rfl⟩

/-! ### The command, the check and the period: every case -/

/-- All that START can do (41_transmitter.md R121): refused busy, refused too long, or accepted. -/
theorem startFrame_cases (s : State) :
    (s.busy = true ∧ startFrame s = flagBusy s) ∨
      (s.busy = false ∧ s.cfg.nLeds < s.frameLen.toNat ∧ startFrame s = flagLen s) ∨
      (s.busy = false ∧ s.frameLen.toNat ≤ s.cfg.nLeds ∧ startFrame s = acceptStart s) := by
  unfold startFrame
  cases hb : s.busy
  · by_cases hl : s.frameLen.toNat > s.cfg.nLeds
    · exact .inr (.inl ⟨rfl, hl, by simp [hl]⟩)
    · exact .inr (.inr ⟨rfl, by omega, by simp [hl]⟩)
  · exact .inl ⟨rfl, by simp⟩

/-- ERR_CLR acts first, then START (R121). -/
theorem command_eq (data : Word) (s : State) :
    command data s =
      if startBit data then startFrame (if errClrBit data then clearErrors s else s)
      else if errClrBit data then clearErrors s else s := rfl

/-- All that a check of an existing channel can do (42_tick_timestamp.md R147). -/
theorem checkChannel_cases (i : Nat) (s : State) :
    (fired s i = true ∧ checkChannel i s = returnData 1 (writeLast i s.tick s)) ∨
      (fired s i = false ∧ checkChannel i s = returnData 0 s) := by
  unfold checkChannel
  cases fired s i
  · exact .inr ⟨rfl, rfl⟩
  · exact .inl ⟨rfl, rfl⟩

/-- All that EV_PERIOD can do (41_transmitter.md R127). -/
theorem execEvPeriod_cases (s : State) :
    (s.outEn = false ∧ execEvPeriod s = .next s) ∨
      (s.outEn = true ∧ s.idx.toNat < s.pulseLen.toNat ∧ execEvPeriod s = .next (appendPeriod (copyEntry s))) ∨
      (s.outEn = true ∧ s.pulseLen.toNat ≤ s.idx.toNat ∧ execEvPeriod s = .next (appendPeriod s)) := by
  unfold execEvPeriod
  cases ho : s.outEn
  · exact .inl ⟨rfl, rfl⟩
  · by_cases hi : s.idx.toNat < s.pulseLen.toNat
    · exact .inr (.inl ⟨rfl, hi, by simp [hi]⟩)
    · exact .inr (.inr ⟨rfl, by omega, by simp [hi]⟩)

/-- All that EV_COMPLETE can do (R129). -/
theorem execEvComplete_cases (s : State) :
    (s.tcPend = false ∧ execEvComplete s = .next s) ∨ (s.tcPend = true ∧ execEvComplete s = .next (finishFrame s)) := by
  unfold execEvComplete
  cases s.tcPend
  · exact .inl ⟨rfl, rfl⟩
  · exact .inr ⟨rfl, rfl⟩

/-! ### Fetch -/

theorem fetch_idle (s : State) (h : s.schedule = []) :
    fetch s = .run (eventOf (Config.drawEvent s.draws)) (takeDraw s) := by
  simp [fetch, h]

theorem fetch_reset (s : State) (rest : List Input) (h : s.schedule = .reset :: rest) :
    fetch s = .restart (popInput s) := by
  simp [fetch, h]

theorem fetch_operation (s : State) (op : Operation) (rest : List Input) (h : s.schedule = .operation op :: rest) :
    fetch s = fetchOperation op (popInput s) := by
  simp [fetch, h]

theorem fetch_pushOperation (op : Operation) (s : State) : fetch (pushOperation op s) = fetchOperation op s := rfl

end Sys2Proof.Machine
end

