-- ==== Sys2Proof/Laws/Exec.lean ====
section
/-! SUPPORT. All that an operation and a step can do, said once: the provers split on these cases instead of unfolding
`exec` and `step`. -/

namespace Sys2Proof.Machine

open Sys2Proof.Safety

/-- All that EV_PERIOD can leave. -/
inductive PeriodCase (s : State) : State → Prop where
  | stopped (h : s.outEn = false) : PeriodCase s s
  | copied (h : s.outEn = true) (hi : s.idx.toNat < s.pulseLen.toNat) : PeriodCase s (appendPeriod (copyEntry s))
  | drained (h : s.outEn = true) (hi : s.pulseLen.toNat ≤ s.idx.toNat) : PeriodCase s (appendPeriod s)

/-- All that an operation can leave: one case for each way an operation of the block acts on the state. -/
inductive ExecCase (i : Instr) (s : State) : State → Prop where
  /-- A read or an ignored write (or a check that did not fire): only the answer is new. -/
  | answer (r : Response) (hi : isEvent i = false ∧ ∀ v, i ≠ .wrCtrl v) : ExecCase i s (answered s r)
  /-- A bus error. -/
  | error (d : Word) (hi : isEvent i = false ∧ ∀ v, i ≠ .wrCtrl v) : ExecCase i s (raiseBusError d s)
  | color (k : ColorIx) (v : Word) (hi : i = .wrColor k v) (hk : k.toNat < s.cfg.nLeds) :
      ExecCase i s (completeWrite (writeColor k.toNat (colorOfData v) s))
  | frameLen (v : Word) (hi : i = .wrFrameLen v) : ExecCase i s (completeWrite (setFrameLen (frameLenBits v) s))
  | ctrl (v : Word) (hi : i = .wrCtrl v) : ExecCase i s (completeWrite (command v s))
  | rearm (ch : Channel) (hi : i = .rdCheck ch) (hch : ch.val < s.cfg.nTasks) (hf : fired s ch.val = true) :
      ExecCase i s (returnData 1 (writeLast ch.val s.tick s))
  | tick (hi : i = .evTick) : ExecCase i s (setTick (s.tick + 1) s)
  | period (t : State) (hi : i = .evPeriod) (ht : PeriodCase s t) : ExecCase i s t
  | spurious (hi : i = .evComplete) (hp : s.tcPend = false) : ExecCase i s s
  | complete (hi : i = .evComplete) (hp : s.tcPend = true) : ExecCase i s (finishFrame s)

/-- An indexed access whose effect is only an answer. -/
theorem onIndexed_answer (i j : Instr) (b : Bool) (r : Response) (f : State → State) (s : State)
    (hf : f s = answered s r) (hi : isEvent i = false ∧ ∀ v, i ≠ .wrCtrl v) :
    ExecCase i s (onIndexed j b f s) := by
  rcases onIndexed_cases j b f s with ⟨-, h⟩ | ⟨-, h⟩ <;> rw [h]
  · exact hf ▸ .answer r hi
  · exact .error _ hi

/-- Every operation completes, and leaves one of the cases. -/
theorem exec_next (i : Instr) (s : State) : ∃ t, exec i s = .next t ∧ ExecCase i s t := by
  cases i
  case rdCtrl => exact ⟨_, rfl, .answer _ ⟨rfl, fun _ => nofun⟩⟩
  case rdStatus => exact ⟨_, rfl, .answer _ ⟨rfl, fun _ => nofun⟩⟩
  case rdFrameLen => exact ⟨_, rfl, .answer _ ⟨rfl, fun _ => nofun⟩⟩
  case rdTick => exact ⟨_, rfl, .answer _ ⟨rfl, fun _ => nofun⟩⟩
  case rdCfg0 => exact ⟨_, rfl, .answer _ ⟨rfl, fun _ => nofun⟩⟩
  case rdCfg1 => exact ⟨_, rfl, .answer _ ⟨rfl, fun _ => nofun⟩⟩
  case rdCfg2 => exact ⟨_, rfl, .answer _ ⟨rfl, fun _ => nofun⟩⟩
  case rdXfer => exact ⟨_, rfl, .answer _ ⟨rfl, fun _ => nofun⟩⟩
  case rdLast ch => exact ⟨_, rfl, onIndexed_answer _ _ _ _ _ s rfl ⟨rfl, fun _ => nofun⟩⟩
  case rdPeriod ch => exact ⟨_, rfl, onIndexed_answer _ _ _ _ _ s rfl ⟨rfl, fun _ => nofun⟩⟩
  case rdCheck ch =>
    refine ⟨_, rfl, ?_⟩
    rcases onIndexed_cases (.rdCheck ch) (channelExists s ch) (checkChannel ch.val) s with ⟨hp, h⟩ | ⟨-, h⟩ <;> rw [h]
    · rcases checkChannel_cases ch.val s with ⟨hf, h'⟩ | ⟨-, h'⟩ <;> rw [h']
      · exact .rearm ch rfl (by simpa [channelExists] using hp) hf
      · exact .answer _ ⟨rfl, fun _ => nofun⟩
    · exact .error _ ⟨rfl, fun _ => nofun⟩
  case rdColor k => exact ⟨_, rfl, onIndexed_answer _ _ _ _ _ s rfl ⟨rfl, fun _ => nofun⟩⟩
  case rdPulse j => exact ⟨_, rfl, onIndexed_answer _ _ _ _ _ s rfl ⟨rfl, fun _ => nofun⟩⟩
  case wrCtrl v => exact ⟨_, rfl, .ctrl v rfl⟩
  case wrStatus v => exact ⟨_, rfl, .answer _ ⟨rfl, fun _ => nofun⟩⟩
  case wrFrameLen v => exact ⟨_, rfl, .frameLen v rfl⟩
  case wrTick v => exact ⟨_, rfl, .answer _ ⟨rfl, fun _ => nofun⟩⟩
  case wrCfg0 v => exact ⟨_, rfl, .answer _ ⟨rfl, fun _ => nofun⟩⟩
  case wrCfg1 v => exact ⟨_, rfl, .answer _ ⟨rfl, fun _ => nofun⟩⟩
  case wrCfg2 v => exact ⟨_, rfl, .answer _ ⟨rfl, fun _ => nofun⟩⟩
  case wrXfer v => exact ⟨_, rfl, .answer _ ⟨rfl, fun _ => nofun⟩⟩
  case wrLast ch v => exact ⟨_, rfl, onIndexed_answer _ _ _ _ _ s rfl ⟨rfl, fun _ => nofun⟩⟩
  case wrPeriod ch v => exact ⟨_, rfl, onIndexed_answer _ _ _ _ _ s rfl ⟨rfl, fun _ => nofun⟩⟩
  case wrCheck ch v => exact ⟨_, rfl, onIndexed_answer _ _ _ _ _ s rfl ⟨rfl, fun _ => nofun⟩⟩
  case wrColor k v =>
    refine ⟨_, rfl, ?_⟩
    rcases onIndexed_cases (.wrColor k v) (colorExists s k)
      (fun t => completeWrite (writeColor k.toNat (colorOfData v) t)) s with ⟨hp, h⟩ | ⟨-, h⟩ <;> rw [h]
    · exact .color k v rfl (by simpa [colorExists] using hp)
    · exact .error _ ⟨rfl, fun _ => nofun⟩
  case wrPulse j v => exact ⟨_, rfl, onIndexed_answer _ _ _ _ _ s rfl ⟨rfl, fun _ => nofun⟩⟩
  case evTick => exact ⟨_, rfl, .tick rfl⟩
  case evPeriod =>
    rcases execEvPeriod_cases s with ⟨ho, h⟩ | ⟨ho, hi, h⟩ | ⟨ho, hi, h⟩
    · exact ⟨s, h, .period s rfl (.stopped ho)⟩
    · exact ⟨_, h, .period _ rfl (.copied ho hi)⟩
    · exact ⟨_, h, .period _ rfl (.drained ho hi)⟩
  case evComplete =>
    rcases execEvComplete_cases s with ⟨hp, h⟩ | ⟨hp, h⟩
    · exact ⟨s, h, .spurious rfl hp⟩
    · exact ⟨_, h, .complete rfl hp⟩
  case busError d => exact ⟨_, rfl, .error d ⟨rfl, fun _ => nofun⟩⟩

/-- What an operation left is one of the cases. -/
theorem exec_cases {i : Instr} {s t : State} (h : exec i s = .next t) : ExecCase i s t := by
  obtain ⟨u, hu, hc⟩ := exec_next i s
  rw [h, Host.Outcome.next.injEq] at hu
  exact hu ▸ hc

/-- What a step left came from an operation, on the state without the next input, or from the reset input. -/
theorem step_cases {s t : State} (h : step s = .next t) :
    (∃ i u, fetch s = .run i u ∧ ExecCase i u t) ∨ (∃ u, fetch s = .restart u ∧ t = assertReset u) := by
  unfold step at h
  split at h
  · exact .inl ⟨_, _, ‹_›, exec_cases h⟩
  · exact .inr ⟨_, ‹_›, (Host.Outcome.next.inj h).symm⟩
  · cases h

/-- What a fetched operation finds: the state but for the schedule and the draws. -/
theorem fetch_run_cases {s u : State} {i : Instr} (h : fetch s = .run i u) :
    (s.schedule = [] ∧ u = takeDraw s ∧ isEvent i = true) ∨
      ∃ op rest, s.schedule = .operation op :: rest ∧ u = popInput s ∧ decode s.cfg op = .operation i := by
  unfold fetch at h
  split at h
  · injection h with h₁ h₂
    refine .inl ⟨‹_›, h₂.symm, ?_⟩
    rw [← h₁]
    generalize Config.drawEvent s.draws = e
    revert e
    decide
  · cases h
  · unfold fetchOperation at h
    split at h
    · rename_i hs _ j hd
      injection h with h₁ h₂
      subst h₁
      exact .inr ⟨_, _, hs, h₂.symm, hd⟩
    · cases h

theorem fetch_restart {s u : State} (h : fetch s = .restart u) :
    u = popInput s ∧ ∃ rest, s.schedule = .reset :: rest := by
  unfold fetch at h
  split at h
  · cases h
  · injection h with h
    exact ⟨h.symm, _, ‹_›⟩
  · unfold fetchOperation at h
    split at h <;> cases h

/-- A run of operations, one at a time. -/
theorem execAll_cons {i : Instr} {is : List Instr} {s u : State} :
    execAll (i :: is) s = .next u ↔ ∃ t, exec i s = .next t ∧ execAll is t = .next u := by
  obtain ⟨t, ht, -⟩ := exec_next i s
  simp [execAll, ht]

/-- A property that every operation keeps is kept by a run of operations. -/
theorem execAll_keeps (P : State → Prop) (hP : ∀ i s t, P s → ExecCase i s t → P t) (is : List Instr) {s u : State}
    (hs : P s) (h : execAll is s = .next u) : P u := by
  induction is generalizing s with
  | nil =>
    cases h
    exact hs
  | cons i is ih =>
    obtain ⟨t, ht, h⟩ := execAll_cons.1 h
    exact ih (hP i s t hs (exec_cases ht)) h

end Sys2Proof.Machine
end

