-- ==== Sys2Proof/Laws/Operands.lean ====
section
/-! SUPPORT. The operands and the packed words as numbers. -/

namespace Sys2Proof.Machine

/-- `{a, b}` as a number (00_scope.md R8). -/
theorem append_toNat {m n : Nat} (a : BitVec m) (b : BitVec n) : (a ++ b).toNat = a.toNat * 2 ^ n + b.toNat := by
  rw [BitVec.toNat_append, ← Nat.shiftLeft_add_eq_or_of_lt b.isLt, Nat.shiftLeft_eq]

theorem concatHalves_toNat (hi lo : Half) : (concatHalves hi lo).toNat = hi.toNat * 2 ^ 16 + lo.toNat :=
  append_toNat hi lo

theorem frameLenBits_toNat (v : Word) : (frameLenBits v).toNat = v.toNat % 2 ^ 16 := by
  simp [frameLenBits]

theorem colorOfData_toNat (v : Word) : (colorOfData v).toNat = v.toNat % 2 ^ 24 := by
  simp [colorOfData]

theorem zextColor_toNat (w : Color) : (zextColor w).toNat = w.toNat := by
  have := w.isLt
  simp only [zextColor, BitVec.toNat_setWidth]
  omega

theorem zextHalf_toNat (h : Half) : (zextHalf h).toNat = h.toNat := by
  have := h.isLt
  simp only [zextHalf, BitVec.toNat_setWidth]
  omega

/-- A colour survives the zero extension and the mask of a write (40_encoder.md R105, R106). -/
theorem colorOfData_zextColor (w : Color) : colorOfData (zextColor w) = w := by
  have := w.isLt
  rw [← BitVec.toNat_inj, colorOfData_toNat, zextColor_toNat]
  omega

/-- A descriptor is the number the encoder's lemma gives it. -/
theorem descriptor_eq_ofNat (i : Instr) (n : Nat) (h : (encode i).descriptor.toNat = n) :
    (encode i).descriptor = BitVec.ofNat 32 n := by
  rw [← h, BitVec.ofNat_toNat, BitVec.setWidth_eq]

end Sys2Proof.Machine
end

