-- ==== Sys2Proof/Laws/PerInstr.lean ====
section
/-! SUPPORT. Per instruction: the descriptor the encoder writes for a well-formed instruction has the fields
30_encoding.md R70 to R73 ask for, so the decoder's field checks (R76) never answer INVALID for it. -/

namespace Sys2Proof.Laws.EncodedFields

/-- KIND is not 0b11, RES is 0, an event has SIZE = 0b00 and an access a SIZE other than 0b11 (R70, R72). -/
def Statement (i : Instr) : Prop :=
  ∀ c : Config, i.wf c = true →
    kindOf (encode i).descriptor ≠ 0b11 ∧ resOf (encode i).descriptor = 0 ∧
      (kindOf (encode i).descriptor = 0b10 → accessSizeOf (encode i).descriptor = 0b00) ∧
      (kindOf (encode i).descriptor ≠ 0b10 → accessSizeOf (encode i).descriptor ≠ 0b11)

/-- The fields, read off the descriptor as a number. -/
theorem of_numbers (i : Instr)
    (h : ∀ c : Config, i.wf c = true → ∀ n, n = (encode i).descriptor.toNat →
      n / 2 ^ 30 < 3 ∧ n / 2 ^ 16 % 2 ^ 12 = 0 ∧ (n / 2 ^ 30 = 2 → n / 2 ^ 28 % 4 = 0) ∧
        (n / 2 ^ 30 ≠ 2 → n / 2 ^ 28 % 4 ≠ 3)) : Statement i := by
  intro c hw
  obtain ⟨h₁, h₂, h₃, h₄⟩ := h c hw _ rfl
  simp only [ne_eq, ← BitVec.toNat_inj, kindOf_toNat, resOf_toNat, accessSizeOf_toNat]
  exact ⟨fun h => by rw [h] at h₁; exact absurd h₁ (by decide), h₂, h₃, h₄⟩

theorem rdCtrl : Statement .rdCtrl := of_numbers _ fun c hw n hn => by
  rw [encode_descriptor_toNat] at hn
  dsimp only at hn
  omega

theorem rdStatus : Statement .rdStatus := of_numbers _ fun c hw n hn => by
  rw [encode_descriptor_toNat] at hn
  dsimp only at hn
  omega

theorem rdFrameLen : Statement .rdFrameLen := of_numbers _ fun c hw n hn => by
  rw [encode_descriptor_toNat] at hn
  dsimp only at hn
  omega

theorem rdTick : Statement .rdTick := of_numbers _ fun c hw n hn => by
  rw [encode_descriptor_toNat] at hn
  dsimp only at hn
  omega

theorem rdCfg0 : Statement .rdCfg0 := of_numbers _ fun c hw n hn => by
  rw [encode_descriptor_toNat] at hn
  dsimp only at hn
  omega

theorem rdCfg1 : Statement .rdCfg1 := of_numbers _ fun c hw n hn => by
  rw [encode_descriptor_toNat] at hn
  dsimp only at hn
  omega

theorem rdCfg2 : Statement .rdCfg2 := of_numbers _ fun c hw n hn => by
  rw [encode_descriptor_toNat] at hn
  dsimp only at hn
  omega

theorem rdXfer : Statement .rdXfer := of_numbers _ fun c hw n hn => by
  rw [encode_descriptor_toNat] at hn
  dsimp only at hn
  omega

theorem rdLast (i : Channel) : Statement (.rdLast i) := of_numbers _ fun c hw n hn => by
  have := i.isLt
  rw [encode_descriptor_toNat] at hn
  dsimp only at hn
  omega

theorem rdPeriod (i : Channel) : Statement (.rdPeriod i) := of_numbers _ fun c hw n hn => by
  have := i.isLt
  rw [encode_descriptor_toNat] at hn
  dsimp only at hn
  omega

theorem rdCheck (i : Channel) : Statement (.rdCheck i) := of_numbers _ fun c hw n hn => by
  have := i.isLt
  rw [encode_descriptor_toNat] at hn
  dsimp only at hn
  omega

theorem rdColor (k : ColorIx) : Statement (.rdColor k) := of_numbers _ fun c hw n hn => by
  have := k.isLt
  rw [encode_descriptor_toNat] at hn
  dsimp only at hn
  omega

theorem rdPulse (j : PulseIx) : Statement (.rdPulse j) := of_numbers _ fun c hw n hn => by
  have := j.isLt
  rw [encode_descriptor_toNat] at hn
  dsimp only at hn
  omega

theorem wrCtrl (v : Word) : Statement (.wrCtrl v) := of_numbers _ fun c hw n hn => by
  rw [encode_descriptor_toNat] at hn
  dsimp only at hn
  omega

theorem wrStatus (v : Word) : Statement (.wrStatus v) := of_numbers _ fun c hw n hn => by
  rw [encode_descriptor_toNat] at hn
  dsimp only at hn
  omega

theorem wrFrameLen (v : Word) : Statement (.wrFrameLen v) := of_numbers _ fun c hw n hn => by
  rw [encode_descriptor_toNat] at hn
  dsimp only at hn
  omega

theorem wrTick (v : Word) : Statement (.wrTick v) := of_numbers _ fun c hw n hn => by
  rw [encode_descriptor_toNat] at hn
  dsimp only at hn
  omega

theorem wrCfg0 (v : Word) : Statement (.wrCfg0 v) := of_numbers _ fun c hw n hn => by
  rw [encode_descriptor_toNat] at hn
  dsimp only at hn
  omega

theorem wrCfg1 (v : Word) : Statement (.wrCfg1 v) := of_numbers _ fun c hw n hn => by
  rw [encode_descriptor_toNat] at hn
  dsimp only at hn
  omega

theorem wrCfg2 (v : Word) : Statement (.wrCfg2 v) := of_numbers _ fun c hw n hn => by
  rw [encode_descriptor_toNat] at hn
  dsimp only at hn
  omega

theorem wrXfer (v : Word) : Statement (.wrXfer v) := of_numbers _ fun c hw n hn => by
  rw [encode_descriptor_toNat] at hn
  dsimp only at hn
  omega

theorem wrLast (i : Channel) (v : Word) : Statement (.wrLast i v) := of_numbers _ fun c hw n hn => by
  have := i.isLt
  rw [encode_descriptor_toNat] at hn
  dsimp only at hn
  omega

theorem wrPeriod (i : Channel) (v : Word) : Statement (.wrPeriod i v) := of_numbers _ fun c hw n hn => by
  have := i.isLt
  rw [encode_descriptor_toNat] at hn
  dsimp only at hn
  omega

theorem wrCheck (i : Channel) (v : Word) : Statement (.wrCheck i v) := of_numbers _ fun c hw n hn => by
  have := i.isLt
  rw [encode_descriptor_toNat] at hn
  dsimp only at hn
  omega

theorem wrColor (k : ColorIx) (v : Word) : Statement (.wrColor k v) := of_numbers _ fun c hw n hn => by
  have := k.isLt
  rw [encode_descriptor_toNat] at hn
  dsimp only at hn
  omega

theorem wrPulse (j : PulseIx) (v : Word) : Statement (.wrPulse j v) := of_numbers _ fun c hw n hn => by
  have := j.isLt
  rw [encode_descriptor_toNat] at hn
  dsimp only at hn
  omega

theorem evTick : Statement .evTick := of_numbers _ fun c hw n hn => by
  rw [encode_descriptor_toNat] at hn
  dsimp only at hn
  omega

theorem evPeriod : Statement .evPeriod := of_numbers _ fun c hw n hn => by
  rw [encode_descriptor_toNat] at hn
  dsimp only at hn
  omega

theorem evComplete : Statement .evComplete := of_numbers _ fun c hw n hn => by
  rw [encode_descriptor_toNat] at hn
  dsimp only at hn
  omega

theorem busError (d : Word) : Statement (.busError d) := of_numbers _ fun c hw n hn => by
  have hlt := d.isLt
  subst hn
  simp only [Instr.wf, accessErrs, Bool.and_eq_true, decide_eq_true_eq] at hw
  obtain ⟨⟨⟨h₁, h₂⟩, h₃⟩, -⟩ := hw
  simp only [encode]
  omega

end Sys2Proof.Laws.EncodedFields
end

