-- ==== Sys2Proof/Tests/Slice0.lean ====
section
/-! SUPPORT. The model's own tests: the checks of WellFormed, words written out bit by bit from 30_encoding.md R70 and
R80, one step each from the vectors of 95_test_vectors.md, and for each obligation with hypotheses a theorem that shows
them met together. Expected values are the spec's or worked out by hand from it. -/

namespace Sys2Proof.Tests

open Sys2Proof Sys2Proof.Machine Sys2Proof.Safety

/-! ### Helpers -/

/-- The state an outcome leaves. -/
def leaves : Host.Outcome State Fault Refusal → Option State
  | .next s => some s
  | .fault _ => none
  | .refused _ => none

/-- The state after a list of operations; `s` itself if one of them stopped. -/
def after (ops : List Instr) (s : State) : State := (leaves (execAll ops s)).getD s

/-- The last answer the host got. -/
def answer (s : State) : Option Response := s.responses.getLast?

/-- `RD STATUS` and `RD XFER`, as the tables of 95_test_vectors.md 2.2 give them. -/
def statusAndXfer (s : State) : Option Response × Option Response :=
  (answer (after [.rdStatus] s), answer (after [.rdXfer] s))

/-- EX right after reset, with the RAMs at known contents. -/
def base : State :=
  { State.reset with color := [0x123456, 0x800000, 0, 0xFFFFFF], pulse := List.replicate 97 7 }

/-- A strip of one LED: 25 entries. -/
def oneLed : Config := { nLeds := 1, pwmPeriod := 100, dutyShort := 30, dutyLong := 50, taskPeriod := [0x30, 0xFFFFFFFF] }

/-- The largest configuration of 00_scope.md R6, with the smallest duties of 90_conflicts.md C8. -/
def widest : Config :=
  { nLeds := 341, pwmPeriod := 3, dutyShort := 1, dutyLong := 2, taskPeriod := List.replicate 14 0 }

/-- The one-LED strip at rest, its RAMs at known contents. -/
def idle : State :=
  { State.resetWith oneLed 0 with color := [0x123456], pulse := List.replicate 25 7 }

/-- Its frame just started. -/
def sending : State := after [.wrCtrl 1] idle

/-- A frame of no LEDs that has drained. -/
def draining : State := after [.wrFrameLen 0, .wrCtrl 1, .evPeriod] idle

/-! ### WellFormed: an ill-formed term for each check, and a well-formed one beside it -/

theorem test_wf_channel : (Instr.rdLast 2).wf Config.ex = false ∧ (Instr.rdLast 1).wf Config.ex = true ∧
    (Instr.rdPeriod 2).wf Config.ex = false ∧ (Instr.rdCheck 13).wf Config.ex = false ∧
    (Instr.rdCheck 13).wf widest = true := by decide

theorem test_wf_channel_write : (Instr.wrLast 2 0).wf Config.ex = false ∧ (Instr.wrPeriod 2 0).wf Config.ex = false ∧
    (Instr.wrCheck 2 0).wf Config.ex = false ∧ (Instr.wrCheck 1 0).wf Config.ex = true := by decide

theorem test_wf_color : (Instr.rdColor 4).wf Config.ex = false ∧ (Instr.rdColor 3).wf Config.ex = true ∧
    (Instr.wrColor 4 0).wf Config.ex = false ∧ (Instr.wrColor 3 0).wf Config.ex = true := by decide

theorem test_wf_pulse : (Instr.rdPulse 97).wf Config.ex = false ∧ (Instr.rdPulse 96).wf Config.ex = true ∧
    (Instr.wrPulse 97 0).wf Config.ex = false ∧ (Instr.wrPulse 96 0).wf Config.ex = true := by decide

/-- BUS_ERROR: no mapped word, no INVALID descriptor and no event; an unmapped, a misaligned and a narrow access. -/
theorem test_wf_busError : (Instr.busError 0x20000004).wf Config.ex = false ∧
    (Instr.busError 0x30000004).wf Config.ex = false ∧ (Instr.busError 0x20010004).wf Config.ex = false ∧
    (Instr.busError 0x80000000).wf Config.ex = false ∧ (Instr.busError 0x20000040).wf Config.ex = true ∧
    (Instr.busError 0x20000006).wf Config.ex = true ∧ (Instr.busError 0x00000004).wf Config.ex = true := by decide

/-! ### Decoding: every constructor, its word written out field by field (KIND, SIZE, RES, OFS or EVT) -/

theorem test_decode_rdCtrl : decodeTableWord 32 0b00_10_000000000000_0000000000000000 = some .rdCtrl := by decide
theorem test_decode_rdStatus : decodeTableWord 32 0b00_10_000000000000_0000000000000100 = some .rdStatus := by decide
theorem test_decode_rdFrameLen : decodeTableWord 32 0b00_10_000000000000_0000000000001000 = some .rdFrameLen := by decide
theorem test_decode_rdTick : decodeTableWord 32 0b00_10_000000000000_0000000000001100 = some .rdTick := by decide
theorem test_decode_rdCfg0 : decodeTableWord 32 0b00_10_000000000000_0000000000010000 = some .rdCfg0 := by decide
theorem test_decode_rdCfg1 : decodeTableWord 32 0b00_10_000000000000_0000000000010100 = some .rdCfg1 := by decide
theorem test_decode_rdCfg2 : decodeTableWord 32 0b00_10_000000000000_0000000000011000 = some .rdCfg2 := by decide
theorem test_decode_rdXfer : decodeTableWord 32 0b00_10_000000000000_0000000000011100 = some .rdXfer := by decide
/-- Channel 1 is at `0x30`: `OFS[7:4] = 3`. -/
theorem test_decode_rdLast : decodeTableWord 32 0b00_10_000000000000_0000000000110000 = some (.rdLast 1) := by decide
theorem test_decode_rdPeriod : decodeTableWord 32 0b00_10_000000000000_0000000000110100 = some (.rdPeriod 1) := by decide
/-- V75. -/
theorem test_decode_rdCheck : decodeTableWord 32 0b00_10_000000000000_0000000000111000 = some (.rdCheck 1) := by decide
/-- V80. -/
theorem test_decode_rdColor : decodeTableWord 32 0b00_10_000000000000_0100000000001100 = some (.rdColor 3) := by decide
/-- V81. -/
theorem test_decode_rdPulse : decodeTableWord 32 0b00_10_000000000000_1000000110000000 = some (.rdPulse 96) := by decide

/-- An operation of a descriptor with the data word `0xA5000003`. -/
def writeOf (descriptor : Word) : Verdict := decode Config.ex ⟨descriptor, 0xA5000003⟩

theorem test_decode_wrCtrl : writeOf 0b01_10_000000000000_0000000000000000 = .operation (.wrCtrl 0xA5000003) := by decide
theorem test_decode_wrStatus : writeOf 0b01_10_000000000000_0000000000000100 = .operation (.wrStatus 0xA5000003) := by
  decide
theorem test_decode_wrFrameLen :
    writeOf 0b01_10_000000000000_0000000000001000 = .operation (.wrFrameLen 0xA5000003) := by decide
theorem test_decode_wrTick : writeOf 0b01_10_000000000000_0000000000001100 = .operation (.wrTick 0xA5000003) := by decide
theorem test_decode_wrCfg0 : writeOf 0b01_10_000000000000_0000000000010000 = .operation (.wrCfg0 0xA5000003) := by decide
theorem test_decode_wrCfg1 : writeOf 0b01_10_000000000000_0000000000010100 = .operation (.wrCfg1 0xA5000003) := by decide
theorem test_decode_wrCfg2 : writeOf 0b01_10_000000000000_0000000000011000 = .operation (.wrCfg2 0xA5000003) := by decide
theorem test_decode_wrXfer : writeOf 0b01_10_000000000000_0000000000011100 = .operation (.wrXfer 0xA5000003) := by decide
theorem test_decode_wrLast : writeOf 0b01_10_000000000000_0000000000110000 = .operation (.wrLast 1 0xA5000003) := by
  decide
theorem test_decode_wrPeriod : writeOf 0b01_10_000000000000_0000000000110100 = .operation (.wrPeriod 1 0xA5000003) := by
  decide
theorem test_decode_wrCheck : writeOf 0b01_10_000000000000_0000000000111000 = .operation (.wrCheck 1 0xA5000003) := by
  decide
theorem test_decode_wrColor : writeOf 0b01_10_000000000000_0100000000001100 = .operation (.wrColor 3 0xA5000003) := by
  decide
theorem test_decode_wrPulse : writeOf 0b01_10_000000000000_1000000110000000 = .operation (.wrPulse 96 0xA5000003) := by
  decide

/-- V92. -/
theorem test_decode_evTick : decodeTableWord 32 0b10_00_000000000000_0000000000000000 = some .evTick := by decide
theorem test_decode_evPeriod : decodeTableWord 32 0b10_00_000000000000_0000000000000001 = some .evPeriod := by decide
theorem test_decode_evComplete : decodeTableWord 32 0b10_00_000000000000_0000000000000010 = some .evComplete := by decide
/-- V84: a byte access. -/
theorem test_decode_busError :
    decodeTableWord 32 0b00_00_000000000000_0000000000000100 = some (.busError 0x00000004) := by decide

/-- V70 to V74: the exact rows beat the channel rows. -/
theorem test_decode_exact_rows : decodeTableWord 32 0x20000000 = some .rdCtrl ∧
    decodeTableWord 32 0x20000008 = some .rdFrameLen ∧ decodeTableWord 32 0x20000010 = some .rdCfg0 ∧
    decodeTableWord 32 0x20000018 = some .rdCfg2 ∧ decodeTableWord 32 0x20000020 = some (.rdLast 0) := by decide

/-- V76 to V79, V82, V83, V85 and V86. -/
theorem test_decode_bus_errors :
    ∀ w ∈ [0x20000040, 0x2000002C, 0x20000100, 0x20004010, 0x20008184, 0x20000006, 0x10000004, 0x60004010],
      decodeTableWord 32 w = some (.busError (BitVec.ofNat 32 w)) := by decide

/-- V87 to V91. -/
theorem test_decode_invalid :
    decode Config.ex ⟨0x30000004, 0⟩ = .invalid .sizeNone ∧ decode Config.ex ⟨0xC0000000, 0⟩ = .invalid .kindNone ∧
      decode Config.ex ⟨0x20010004, 0⟩ = .invalid .reservedBits ∧
      decode Config.ex ⟨0x80000003, 0⟩ = .invalid .unusedEvent ∧
      decode Config.ex ⟨0x90000000, 0⟩ = .invalid .eventSize := by decide

/-- The host's names spell the same descriptors (00_scope.md R10, and the two examples of 30_encoding.md R81). -/
theorem test_encode_names : memRead 0x0008 0b10 = encode .rdFrameLen ∧ memWrite 0x4004 0b10 5 = encode (.wrColor 1 5) ∧
    readReg (.check 1) = ⟨0x20000038, 0⟩ ∧ writeReg (.color 2) 0x123456 = ⟨0x60004008, 0x00123456⟩ := by decide

/-! ### The encoder (95_test_vectors.md 2.1) -/

/-- V4, and with it V3's bit order and V14's terminator: 0x123456, entry by entry. -/
theorem test_start_encodes :
    (after [.wrFrameLen 1, .wrCtrl 1] base).pulse.take 26 =
      [30, 30, 30, 50, 30, 30, 50, 30, 30, 30, 50, 50, 30, 50, 30, 30, 30, 50, 30, 50, 30, 50, 50, 30, 0, 7] := by decide

/-- V12: entry 24 is bit 23 of LED 1. -/
theorem test_start_second_led :
    (fun s => (s.pulseLen, readPulse s 23, readPulse s 24, readPulse s 25, readPulse s 48))
      (after [.wrColor 0 1, .wrFrameLen 2, .wrCtrl 1] base) = (49, 50, 50, 30, 0) := by decide

/-- V10 and V11. -/
theorem test_wrColor_masks : readColor (after [.wrColor 1 0xFF123456] base) 1 = 0x123456 ∧
    readColor (after [.wrColor 3 0x01000000] base) 3 = 0 := by decide

theorem test_rdColor : answer (after [.rdColor 1] base) = some (.data 0x00800000) := by decide

/-- V16. -/
theorem test_wrPulse_ignored : after [.wrPulse 0 99] base = { base with responses := [.written] } := by decide

theorem test_rdPulse : answer (after [.rdPulse 96] base) = some (.data 7) := by decide

/-- V17. -/
theorem test_wrFrameLen_low_half : (after [.wrFrameLen 0x00010003] base).frameLen = 3 := by decide

/-- V18. -/
theorem test_rdFrameLen_reset : answer (after [.rdFrameLen] base) = some (.data 4) := by decide

/-! ### The transmitter (2.2) -/

/-- V20. -/
theorem test_wrCtrl_start : statusAndXfer (after [.wrCtrl 1] base) = (some (.data 0x05), some (.data 0x00610000)) := by
  decide

/-- V28: a frame longer than the strip. -/
theorem test_wrCtrl_too_long : after [.wrFrameLen 5, .wrCtrl 1] base =
    { base with frameLen := 5, errLen := true, responses := [.written, .written] } := by decide

/-- V27 and V29: BUSY is tested first. -/
theorem test_start_while_busy : after [.wrFrameLen 5, .wrCtrl 1] sending =
    { sending with frameLen := 5, errBusy := true, responses := [.written, .written, .written] } := by decide

/-- V30 to V33, on the status bits. -/
theorem test_errClr_first : (after [.wrCtrl 2] { base with errBusy := true, errLen := true }).errLen = false ∧
    (after [.wrCtrl 3] { sending with errBusy := true }).errBusy = true ∧
    (after [.wrCtrl 3] { idle with errBusy := true }).errBusy = false ∧
    after [.wrCtrl 0xFFFFFFFC] base = { base with responses := [.written] } := by decide

/-- V21: the next entry goes to CMP and one period to LINE. -/
theorem test_evPeriod_copies :
    (fun s => (s.cmp, s.idx, s.tcPend, s.line)) (after [.evPeriod] { sending with idx := 3 }) =
      (50, 4, false, [50]) := by decide

/-- V22 and V23: the last entry signals exhaustion, and a draining frame emits zeros. -/
theorem test_evPeriod_drains : (draining.tcPend, (after [.evPeriod] draining).line, (after [.evPeriod] draining).idx) =
    (true, [0, 0], 1) := by decide

/-- V24 and V26. -/
theorem test_evComplete : (after [.evComplete] draining).busy = false ∧ (after [.evComplete] draining).outEn = false ∧
    after [.evComplete] base = base := by decide

/-- V25. -/
theorem test_evPeriod_idle : after [.evPeriod] base = base := by decide

/-- V37, with all five bits seen once. -/
theorem test_rdStatus : answer (after [.rdStatus] base) = some (.data 0) ∧
    answer (after [.rdStatus] { draining with errBusy := true, errLen := true }) = some (.data 0x1F) := by decide

/-- P4: `x2`. -/
theorem test_rdXfer : answer (after [.rdXfer] draining) = some (.data 0x00010001) := by decide

/-- V36. -/
theorem test_rdCtrl : answer (after [.rdCtrl] sending) = some (.data 0) := by decide

/-- V34. -/
theorem test_wrStatus_ignored : after [.wrStatus 0xFFFFFFFF] base = { base with responses := [.written] } := by decide

/-- V35. -/
theorem test_wrXfer_ignored : after [.wrXfer 0] base = { base with responses := [.written] } := by decide

/-! ### Tick and timestamps (2.3) -/

/-- V40. -/
theorem test_evTick_wraps : (after [.evTick] { base with tick := 0xFFFFFFFF }).tick = 0 := by decide

/-- V52. -/
theorem test_rdTick : answer (after [.rdTick] { base with tick := 3 }) = some (.data 3) := by decide

/-- V53. -/
theorem test_wrTick_ignored : after [.wrTick 0] base = { base with responses := [.written] } := by decide

/-- V41 and V42: across the wrap, one tick apart. -/
theorem test_rdCheck_wraps :
    (fun s => (answer s, s.last)) (after [.rdCheck 0] { idle with last := [0xFFFFFFF0, 0], tick := 0x20 }) =
      (some (.data 1), [0x20, 0]) ∧
    (fun s => (answer s, s.last)) (after [.rdCheck 0] { idle with last := [0xFFFFFFF0, 0], tick := 0x1F }) =
      (some (.data 0), [0xFFFFFFF0, 0]) := by decide

/-- V48, V49 and V50. -/
theorem test_rdCheck_longest :
    answer (after [.rdCheck 1] { idle with tick := 0xFFFFFFFF }) = some (.data 1) ∧
      answer (after [.rdCheck 1] { idle with tick := 0xFFFFFFFE }) = some (.data 0) ∧
      (after [.rdCheck 1] { idle with last := [0, 5], tick := 4 }).last = [0, 4] := by decide

/-- V54. -/
theorem test_rdLast : answer (after [.rdLast 0] { base with last := [50, 0] }) = some (.data 50) := by decide

/-- V56. -/
theorem test_rdPeriod : answer (after [.rdPeriod 0] base) = some (.data 50) ∧
    answer (after [.rdPeriod 1] base) = some (.data 1000) := by decide

/-- V55. -/
theorem test_wrChannel_ignored : ∀ i ∈ [Instr.wrLast 0 5, .wrPeriod 0 1, .wrCheck 0 1],
    after [i] base = { base with responses := [.written] } := by decide

/-! ### Configuration (2.4) and bus errors (P5) -/

/-- V60, V61 and V62. -/
theorem test_rdCfg : answer (after [.rdCfg0] base) = some (.data 0x00020004) ∧
    answer (after [.rdCfg1] base) = some (.data 0x0032001E) ∧
    answer (after [.rdCfg2] base) = some (.data 0x00000064) := by decide

/-- V63. -/
theorem test_wrCfg_ignored : ∀ i ∈ [Instr.wrCfg0 0, .wrCfg1 0, .wrCfg2 0],
    after [i] base = { base with responses := [.written] } := by decide

/-- P5, its first statement: an error response, the record, and nothing else; the machine goes on. -/
theorem test_busError : leaves (step { base with schedule := [.operation ⟨0x60004010, 0x00123456⟩] }) =
    some { base with faults := [.busError 0x60004010], responses := [.error] } := by decide

/-- The reset input, in the middle of a frame (70_reset_and_hazards.md R200, R202). -/
theorem test_reset_input :
    (leaves (step { sending with schedule := [.reset] })).map (fun s => (s.busy, s.outEn, s.pulseLen, s.draws)) =
      some (false, false, 0, 2) := by decide

/-! ### The host beside the block (30_encoding.md R82 to R84) -/

/-- What a schedule leaves of the host and of the block. -/
def played (program : List Stmt) (turns : List Turn) (h : HostState) (s : State) : Option (HostState × State) :=
  match runSchedule program turns h s with
  | .next p => some p
  | .fault _ => none
  | .refused _ => none

/-- P5, both its accesses and its `halt`, which also moves `pc` on (R82): the host gets no data, and the two descriptors
are on record. -/
theorem test_host_p5 :
    (played [.write (.color 4) (.lit 0x123456), .read 0 (.color 4), .halt] [.host, .host, .host] hostStart base).map
        (fun p => (p.1, p.2.faults, p.2.color)) =
      some ({ pc := 3, vars := [], halted := true }, [.busError 0x60004010, .busError 0x20004010], base.color) := by
  decide

/-- WRITE_FRAME on a draining frame: the first poll finds it busy (P1: `s = 0x7`) and goes back; after the completion the
second leaves the loop (`s = 0x0`), and the START is accepted. -/
theorem test_host_waits :
    (played (writeFrameStmts 0 0) [.host, .host, .event 2, .host, .host, .host] hostStart draining).map
        (fun p => (p.1, p.2.busy, p.2.errBusy)) =
      some ({ pc := 3, vars := [0], halted := false }, true, false) := by decide

/-- TRY_WRITE_FRAME on a busy block gives `ok = 0`, and LOAD_FRAME is the writes of R83. -/
theorem test_host_pseudo :
    (played (tryWriteFrameStmts 0 1) [.host, .host, .host] hostStart draining).map (fun p => p.1.vars) =
      some [0x0F, 0] ∧
      loadFrameStmts [0x800001] = [.write (.color 0) (.lit 0x800001), .write .frameLen (.lit 1)] := by decide

/-- The placed word is what the first step after reset runs. -/
theorem test_withFetchWord : leaves (step (State.reset.withFetchWord 32 0x20000010)) =
    some { State.reset with responses := [.data 0x00020004] } := by rfl

/-! ### Witnesses: for each obligation with hypotheses, a state and operands that meet them, at the ends of their
ranges -/

/-- BlockInv by evaluation, the line entry by entry. -/
theorem blockInv_of (s : State) (h : s.cfg.Valid ∧ s.RamWf ∧ IdleInv s ∧ BusyInv s ∧ PulseInv s)
    (hl : s.line.all (fun p => decide (p.toNat < s.cfg.pwmPeriod.toNat)) = true) : BlockInv s :=
  ⟨h.1, h.2.1, h.2.2.1, h.2.2.2.1, h.2.2.2.2, fun p hp => by simpa using List.all_eq_true.1 hl p hp⟩

/-- `idle` with a frame of no LEDs to send. -/
def noLeds : State := { idle with frameLen := 0 }

/-- `draining` after a long, a short and a zero period. -/
def emitted : State := { draining with line := [50, 30, 0] }

/-- `sending` with other colours and another frame length. -/
def recolored : State := { sending with color := [0], frameLen := 0, responses := [] }

/-- `base` with the reset input and an operation to come. -/
def scheduled : State := { base with schedule := [.operation ⟨0x60000000, 1⟩, .reset] }

/-- `base` one tick before TICK wraps, channel 0 just written. -/
def wrapping : State := { base with tick := 0xFFFFFFFF, last := [0xFFFFFFFF, 0] }

theorem idle_inv : BlockInv idle := blockInv_of _ (by decide) (by decide)
theorem sending_inv : BlockInv sending := blockInv_of _ (by decide) (by decide)
theorem draining_inv : BlockInv draining := blockInv_of _ (by decide) (by decide)
theorem noLeds_inv : BlockInv noLeds := blockInv_of _ (by decide) (by decide)

/-- `c.Valid`: EX, the widest strip and the narrowest (OpcodeTableWordsDecode, ResetStateReadsAsStated,
ResetStateMeetsTheInvariant). -/
theorem test_witness_valid : Config.ex.Valid ∧ widest.Valid ∧ oneLed.Valid := by decide

/-- EncodeThenDecodeIsIdentity, at the last index of each kind and at a bus error. -/
theorem test_witness_encodeThenDecode : widest.Valid ∧ (Instr.rdLast 13).wf widest = true ∧
    (Instr.wrColor 340 5).wf widest = true ∧ (Instr.rdPulse 8184).wf widest = true ∧
    (Instr.busError 0x20004554).wf widest = true ∧ Instr.evComplete.wf widest = true := by decide

/-- DecodeKeepsEveryBit, with a data word. -/
theorem test_witness_decodeKeeps : widest.Valid ∧ decode widest ⟨0x60004550, 5⟩ = .operation (.wrColor 340 5) ∧
    writeData (.wrColor 340 5) = some 5 := by decide

/-- BusErrorExactlyOffTheMap: the first offset past each area, and the last inside it. -/
theorem test_witness_busError : Config.ex.Valid ∧
    [0x20000040, 0x20004010, 0x20008184, 0x20003FFC, 0x2000002C].all (accessErrs Config.ex) = true ∧
    [0x2000001C, 0x20000020, 0x20000038, 0x2000400C, 0x20008180].any (accessErrs Config.ex) = false := by decide

/-- MostSpecificRowIsUnique: an exact row and a channel row match one descriptor. -/
theorem test_witness_rows : rowMatches 0x20000010 .rdCfg0 = true ∧ rowMatches 0x20000010 .rdLast = true ∧
    rowMask .rdCfg0 = 0xFFFFFFFF ∧ rowMatches 0x2000400C .rdColor = true ∧ rowMask .rdColor = 0xFFFFC003 ∧
    rowMatches 0x20008180 .rdPulse = true ∧ rowMask .rdPulse = 0xFFFF8003 ∧ rowMatches 0x20000020 .rdLast = true ∧ maskBits .rdLast = maskBits .rdLast := by
  decide

/-- StepRunsTheDecodedInstruction: each of its four clauses. -/
theorem test_witness_step :
    scheduled.schedule = .operation ⟨0x60000000, 1⟩ :: [.reset] ∧
      decode scheduled.cfg ⟨0x60000000, 1⟩ = .operation (.wrCtrl 1) ∧
      decode base.cfg ⟨0xC0000000, 0⟩ = .invalid .kindNone ∧ base.schedule = [] ∧ 0x80000002 < 2 ^ 32 ∧
      decode base.cfg ⟨BitVec.ofNat 32 0x80000002, 0⟩ = .operation .evComplete := by decide

/-- ResetInputLeavesTheResetState, ResetInputKeepsTheSchedule, in the middle of a frame. -/
theorem test_witness_resetInput :
    { sending with schedule := [.reset] }.schedule = [Input.reset] ∧ sending.cfg.nLeds ≤ 341 ∧
      0 < sending.cfg.nLeds ∧ 24 < sending.cfg.pulseCap ∧ widest.nLeds = 341 := by decide

/-- BlockInv holds of an idle, a sending and a draining state, and each can step (EveryStepKeepsTheInvariant,
BusyHoldsFromStartToCompletion, NoPhaseIsSkipped, EachFieldHasOneWriter, and the BlockInv clauses of
PeriodCopiesOneEntryToTheLine, CompletionEndsTheFrame and StatusReadShowsTheFiveBits). -/
theorem test_witness_invariant : BlockInv idle ∧ BlockInv sending ∧ BlockInv draining ∧
    (phase idle, phase sending, phase draining) = (.idle, .transmitting, .draining) ∧
    (leaves (step { draining with schedule := [.operation (encode .evComplete)] })).isSome = true ∧
    draining.tcPend = true :=
  ⟨idle_inv, sending_inv, draining_inv, by decide, by decide, by decide⟩

/-- WriteColorStoresTheLow24Bits, ReadColorReturnsTheWord, ReadPulseReturnsTheEntry: the last index and the first
past it. -/
theorem test_witness_index : base.color.length = base.cfg.nLeds ∧ (3 : ColorIx).toNat < base.cfg.nLeds ∧
    base.cfg.nLeds ≤ (4 : ColorIx).toNat ∧ (96 : PulseIx).toNat < base.cfg.pulseCap ∧
    base.cfg.pulseCap ≤ (97 : PulseIx).toNat := by decide

/-- ReadColorReturnsTheWord, ReadPulseReturnsTheEntry: a run from reset that writes another word, and one with no CTRL
write. -/
theorem test_witness_draws : (3 : ColorIx).toNat < Config.ex.nLeds ∧ (96 : PulseIx).toNat < Config.ex.pulseCap ∧
    (∀ v, Instr.wrColor 0 5 ≠ .wrColor 3 v) ∧ (∀ v, Instr.wrColor 0 5 ≠ .wrCtrl v) ∧
    ∃ t, execAll [.wrColor 0 5] (State.resetWith Config.ex 0) = .next t :=
  ⟨by decide, by decide, by simp, by simp, ⟨_, rfl⟩⟩

/-- AcceptedStartEncodesAndArms, CtrlAndXferReads (its START clause), PulseEntriesDecodeToTheColors: a frame as long as the strip, and an entry of each of
its three clauses. -/
theorem test_witness_start : BlockInv idle ∧ (1 : Word).getLsbD 0 = true ∧ idle.busy = false ∧
    idle.frameLen.toNat = 1 ∧ idle.frameLen.toNat ≤ idle.cfg.nLeds ∧ 23 < 24 * idle.frameLen.toNat ∧
    exec (.wrCtrl 1) idle = .next sending :=
  ⟨idle_inv, by decide, by decide, by decide, by decide, by decide, rfl⟩

/-- ZeroLedFrameIsTheTerminatorAlone. -/
theorem test_witness_zeroLeds :
    BlockInv noLeds ∧ (1 : Word).getLsbD 0 = true ∧ noLeds.busy = false ∧ noLeds.frameLen = 0 :=
  ⟨noLeds_inv, by decide, by decide, by decide⟩

/-- CtrlWriteClearsThenStarts: no START, a busy block, one LED too many, and the longest frame; and an error bit that an
operation clears. -/
theorem test_witness_ctrl : (after [.wrCtrl 2] { base with errLen := true }).errLen = false ∧ (2 : Word).getLsbD 0 = false ∧ (3 : Word).getLsbD 0 = true ∧ sending.busy = true ∧
    idle.busy = false ∧ idle.cfg.nLeds < (2 : Half).toNat ∧ idle.frameLen.toNat ≤ idle.cfg.nLeds := by decide

/-- PeriodCopiesOneEntryToTheLine: a stopped output, the last entry, and none left. -/
theorem test_witness_period : idle.outEn = false ∧ sending.outEn = true ∧ (24 : Half).toNat < sending.pulseLen.toNat ∧
    draining.outEn = true ∧ draining.pulseLen.toNat ≤ draining.idx.toNat := by decide

/-- LinePeriodsLastPwmPeriod: a line that holds a long, a short and a zero period. -/
theorem test_witness_line : BlockInv emitted ∧ 50 ∈ emitted.line ∧ 0 ∈ emitted.line :=
  ⟨blockInv_of _ (by decide) (by decide), by decide, by decide⟩

/-- CompletionEndsTheFrame: both cases, and BUSY falling; CtrlAndXferReads (its last clause). -/
theorem test_witness_complete : idle.tcPend = false ∧ BlockInv draining ∧ draining.tcPend = true ∧
    draining.busy = true ∧ ∃ t, exec .evComplete draining = .next t ∧ t.busy = false :=
  ⟨by decide, draining_inv, by decide, by decide, ⟨_, rfl, by decide⟩⟩

/-- WritesToReadOnlyRegistersAreIgnored, TimestampReads, CheckFiresAndRearms: the last channel and the first past it,
elapsed times at the period and one below it. -/
theorem test_witness_channel : base.last.length = base.cfg.nTasks ∧ (1 : Channel).val < base.cfg.nTasks ∧
    base.cfg.nTasks ≤ (2 : Channel).val ∧
    (taskPeriodOf base.cfg 0).toNat = ((50 : Word).toNat + 2 ^ 32 - (readLast base 0).toNat) % 2 ^ 32 ∧
    ((49 : Word).toNat + 2 ^ 32 - (readLast base 0).toNat) % 2 ^ 32 < (taskPeriodOf base.cfg 0).toNat ∧
    1 ≤ (taskPeriodOf base.cfg 0).toNat := by decide

/-- A completion that comes too early, a colour write and a START. -/
def early : List Instr := [.evComplete, .wrColor 0 0, .wrCtrl 1]

/-- Two periods with a tick between them. -/
def late : List Instr := [.evPeriod, .evTick, .evPeriod]

/-- FrameStreamsInOrderWhateverIntervenes: a frame of no LEDs, drained and with one period over; its last clause has
`24L + 1 = 1` periods and more. -/
theorem test_witness_stream :
    BlockInv noLeds ∧ (1 : Word).getLsbD 0 = true ∧ noLeds.busy = false ∧ noLeds.frameLen.toNat ≤ noLeds.cfg.nLeds ∧
      (∃ t u, exec (.wrCtrl 1) noLeds = .next t ∧ execAll (early ++ late) t = .next u) ∧
      early.count .evPeriod ≤ 24 * noLeds.frameLen.toNat ∧ (∀ op ∈ late, op ≠ .evComplete) ∧
      24 * noLeds.frameLen.toNat + 1 ≤ (early ++ late).count .evPeriod :=
  ⟨noLeds_inv, by decide, by decide, by decide, ⟨_, _, rfl, rfl⟩, by decide, by decide, by decide⟩

/-- ColorsReachNothingWithoutStart: two states that differ in their colours and frame length. -/
theorem test_witness_colors :
    recolored.color ≠ sending.color ∧
      recolored = { sending with
        color := recolored.color
        frameLen := recolored.frameLen
        responses := recolored.responses } ∧
      (∀ op ∈ [Instr.evPeriod, .rdColor 0], ∀ v, op ≠ .wrCtrl v) ∧
      (∃ t, execAll [.evPeriod, .rdColor 0] sending = .next t) ∧
      ∃ t, execAll [.evPeriod, .rdColor 0] recolored = .next t :=
  ⟨by decide, by decide, by simp, ⟨_, rfl⟩, ⟨_, rfl⟩⟩

/-- StartAfterIdleReadIsNotRefusedBusy, IdleEventsChangeOnlyTick: all three events. -/
theorem test_witness_idleEvents :
    BlockInv idle ∧ idle.busy = false ∧ (∀ op ∈ [Instr.evTick, .evPeriod, .evComplete], isEvent op = true) ∧
      (∃ t, execAll [.evTick, .evPeriod, .evComplete] idle = .next t) ∧ (1 : Word).getLsbD 0 = true ∧
      idle.frameLen.toNat ≤ idle.cfg.nLeds :=
  ⟨idle_inv, by decide, by decide, ⟨_, rfl⟩, by decide, by decide⟩

/-- ElapsedCountsTheTicks: a channel just written, then ticks, a read of another channel and a wrap. -/
theorem test_witness_elapsed :
    (∀ op ∈ [Instr.evTick, .rdCheck 1, .evTick], op ≠ .rdCheck 0) ∧
      (∃ t, execAll [.evTick, .rdCheck 1, .evTick] wrapping = .next t) ∧ readLast wrapping 0 = wrapping.tick :=
  ⟨by decide, ⟨_, rfl⟩, by decide⟩

/-- LateCheckDoesNotCatchUp: a check exactly two periods late. -/
theorem test_witness_late :
    base.last.length = base.cfg.nTasks ∧ (0 : Channel).val < base.cfg.nTasks ∧
      2 * (taskPeriodOf base.cfg 0).toNat = (elapsed { base with tick := 100 } 0).toNat ∧
      ∃ t u, exec (.rdCheck 0) { base with tick := 100 } = .next t ∧ execAll [.evTick] t = .next u :=
  ⟨by decide, by decide, by decide, ⟨_, _, rfl, rfl⟩⟩

/-- PeriodCornerCases: a channel of period 0, one of period `2^32 - 1` at exactly that elapsed time, and a run from
reset. -/
theorem test_witness_corners :
    ((State.resetWith widest 0).last.length = widest.nTasks ∧ (13 : Channel).val < widest.nTasks ∧
        taskPeriodOf widest 13 = 0) ∧
      ((1 : Channel).val < idle.cfg.nTasks ∧ (taskPeriodOf idle.cfg 1).toNat = 2 ^ 32 - 1 ∧
        (elapsed { idle with tick := 0xFFFFFFFF } 1).toNat = 2 ^ 32 - 1) ∧
      ∃ t, execAll [.evTick] (State.resetWith Config.ex 0) = .next t :=
  ⟨by decide, by decide, ⟨_, rfl⟩⟩

/-- OnlyTheTickEventMovesTime, OnlyResetEmptiesTheFaultRecord, AtMostOneErrorPerOperation, BusErrorIsRecordedForGood: operations that meet each error
condition, with a record that already holds an entry. -/
theorem test_witness_errors :
    conditionsOf (.busError 4) { base with faults := [.busError 8] } = [.busError] ∧
      conditionsOf (.rdColor 4) base = [.busError] ∧ conditionsOf (.wrCtrl 1) sending = [.errBusy] ∧
      conditionsOf (.wrCtrl 1) { base with frameLen := 5 } = [.errLen] ∧ conditionsOf (.wrCtrl 1) base = [] ∧
      (leaves (step { base with faults := [.busError 8], schedule := [.operation ⟨4, 0⟩] })).isSome = true := by decide

/-- ConfigurationReads. -/
theorem test_witness_configuration : base.cfg.Valid ∧ (State.resetWith widest 0).cfg.Valid := by decide

/-- RefusedAccessChangesNoState: a narrow, a misaligned and an unmapped access, the last offset among them. -/
theorem test_witness_refused : base.cfg.Valid ∧ ∀ d ∈ [0x10000004, 0x20000006, 0x60008184, 0x6000FFFC],
    d / 2 ^ 30 < 2 ∧ d / 2 ^ 16 % 2 ^ 12 = 0 ∧ d / 2 ^ 28 % 4 ≠ 3 ∧
      (d / 2 ^ 28 % 4 ≠ 2 ∨ d % 4 ≠ 0 ∨ offsetMapped base.cfg (d % 2 ^ 16) = false) := by decide

/-- ReadsAndWritesRepeat: its three clauses. -/
theorem test_witness_repeat : isRead (.rdPulse 96) = true ∧ (Instr.rdPulse 96).wf base.cfg = true ∧
    writeData (.wrColor 3 5) = some 5 ∧ (Instr.wrColor 3 5).wf base.cfg = true ∧ writeData (.wrCtrl 2) = some 2 ∧
    (2 : Word).getLsbD 0 = false ∧ (1 : Word).getLsbD 0 = true ∧ sending.busy = true := by decide

/-! A fair run, for FairRunsEndEveryFrame: the three events in turn, from the draining frame. -/

/-- Tick, period, completion, and again. -/
def turns (n : Nat) : Instr := eventOf (Fin.ofNat 3 n)

/-- The states of that run. -/
def turnStates : Nat → State
  | 0 => draining
  | n + 1 => after [turns n] (turnStates n)

/-- FairRunsEndEveryFrame. -/
theorem test_witness_fair :
    Execution turnStates turns ∧ Fair turnStates turns ∧ BlockInv (turnStates 0) ∧ (turnStates 0).busy = true := by
  have turn (k : Fin 3) (n : Nat) : ∃ m, n ≤ m ∧ turns m = eventOf k := by
    refine ⟨3 * n + k.val, by omega, congrArg eventOf (Fin.ext ?_)⟩
    simp only [Fin.ofNat]
    omega
  refine ⟨fun n => ?_, ⟨fun n _ => turn 2 n, turn 1, turn 0⟩, draining_inv, by decide⟩
  obtain ⟨t, ht, -⟩ := exec_next (turns n) (turnStates n)
  simp [turnStates, after, execAll, leaves, ht]

end Sys2Proof.Tests
end

/-! PROOFS. The family 10_state.md: the invariant of R42 to R45 holds after reset and every step keeps it, the
transmitter skips no phase (R38), and each field is changed by its own writers only (R22, R46). -/

namespace Sys2Proof.Machine

open Sys2Proof.Safety

/-! ### What the invariant reads -/

/-- `t` agrees with `s` on all that `BlockInv` reads. -/
structure Agrees (s t : State) : Prop where
  cfg : t.cfg = s.cfg
  colorLength : t.color.length = s.color.length
  pulse : t.pulse = s.pulse
  lastLength : t.last.length = s.last.length
  pulseLen : t.pulseLen = s.pulseLen
  idx : t.idx = s.idx
  cmp : t.cmp = s.cmp
  busy : t.busy = s.busy
  tcPend : t.tcPend = s.tcPend
  outEn : t.outEn = s.outEn
  line : t.line = s.line

theorem Agrees.blockInv {s t : State} (h : Agrees s t) (hs : BlockInv s) : BlockInv t := by
  simpa only [BlockInv, State.RamWf, IdleInv, BusyInv, PulseInv, LineInv, readPulse, h.cfg, h.colorLength, h.pulse,
    h.lastLength, h.pulseLen, h.idx, h.cmp, h.busy, h.tcPend, h.outEn, h.line] using hs

theorem Agrees.phase_eq {s t : State} (h : Agrees s t) : phase t = phase s := by
  simp only [phase, h.busy, h.tcPend]

theorem agrees_completeWrite (s : State) : Agrees s (completeWrite s) := by constructor <;> rfl

theorem agrees_setErrors (s : State) (b l : Bool) : Agrees s { s with errBusy := b, errLen := l } := by
  constructor <;> rfl

/-! ### What an operation does to the transmitter -/

/-- All that the command of a CTRL write can do (41_transmitter.md R121 to R126): write the sticky bits, and accept
a START when idle and the frame fits. -/
theorem command_cases (v : Word) (s : State) :
    ∃ b l, command v s = { s with errBusy := b, errLen := l } ∨
      (startBit v = true ∧ s.busy = false ∧ s.frameLen.toNat ≤ s.cfg.nLeds ∧
        command v s = acceptStart { s with errBusy := b, errLen := l }) := by
  obtain ⟨b, l, hu⟩ : ∃ b l,
      (if errClrBit v then clearErrors s else s) = { s with errBusy := b, errLen := l } := by
    cases errClrBit v
    · exact ⟨s.errBusy, s.errLen, rfl⟩
    · exact ⟨false, false, rfl⟩
  rw [command_eq, hu]
  cases startBit v
  · exact ⟨b, l, .inl rfl⟩
  · rcases startFrame_cases { s with errBusy := b, errLen := l } with ⟨-, h⟩ | ⟨-, -, h⟩ | ⟨hb, hl, h⟩
    · exact ⟨true, l, .inl h⟩
    · exact ⟨b, true, .inl h⟩
    · exact ⟨b, l, .inr ⟨rfl, hb, hl, h⟩⟩

/-- All that an operation can do to what `BlockInv` reads: nothing, or one of the transmitter's four moves
(41_transmitter.md R123, R127, R129). -/
inductive TransmitterCase (i : Instr) (s : State) : State → Prop where
  | kept {t : State} (ht : Agrees s t) : TransmitterCase i s t
  | started {t : State} (v : Word) (u : State) (hi : i = .wrCtrl v) (hu : Agrees s u) (hb : u.busy = false)
      (hl : u.frameLen.toNat ≤ u.cfg.nLeds) (ht : Agrees (acceptStart u) t) : TransmitterCase i s t
  | copied (hi : i = .evPeriod) (ho : s.outEn = true) (hx : s.idx.toNat < s.pulseLen.toNat) :
      TransmitterCase i s (appendPeriod (copyEntry s))
  | drained (hi : i = .evPeriod) (ho : s.outEn = true) (hx : s.pulseLen.toNat ≤ s.idx.toNat) :
      TransmitterCase i s (appendPeriod s)
  | finished (hi : i = .evComplete) (hp : s.tcPend = true) : TransmitterCase i s (finishFrame s)

theorem ExecCase.transmitterCase {i : Instr} {s t : State} (h : ExecCase i s t) : TransmitterCase i s t := by
  cases h with
  | answer => exact .kept (by constructor <;> rfl)
  | error => exact .kept (by constructor <;> rfl)
  | color => exact .kept (by constructor <;> simp)
  | frameLen => exact .kept (by constructor <;> rfl)
  | ctrl v hi =>
    obtain ⟨b, l, h | ⟨-, hb, hl, h⟩⟩ := command_cases v s <;> rw [h]
    · exact .kept (by constructor <;> rfl)
    · exact .started v _ hi (agrees_setErrors s b l) hb hl (agrees_completeWrite _)
  | rearm => exact .kept (by constructor <;> simp)
  | tick => exact .kept (by constructor <;> rfl)
  | period _ hi ht =>
    cases ht with
    | stopped => exact .kept (by constructor <;> rfl)
    | copied ho hx => exact .copied hi ho hx
    | drained ho hx => exact .drained hi ho hx
  | spurious => exact .kept (by constructor <;> rfl)
  | complete hi hp => exact .finished hi hp

/-! ### What the invariant says of a frame in flight -/

theorem busy_of_outEn {s : State} (hs : BlockInv s) (ho : s.outEn = true) : s.busy = true := by
  obtain ⟨-, -, hidle, -⟩ := hs
  cases hb : s.busy
  · obtain ⟨hout, -⟩ := hidle hb
    exact hout.symm.trans ho
  · rfl

theorem busy_of_tcPend {s : State} (hs : BlockInv s) (hp : s.tcPend = true) : s.busy = true := by
  obtain ⟨-, -, hidle, -⟩ := hs
  cases hb : s.busy
  · obtain ⟨-, htc, -⟩ := hidle hb
    exact htc.symm.trans hp
  · rfl

/-- Completion pends only when the frame is exhausted (10_state.md R44). -/
theorem idx_eq_of_tcPend {s : State} (hs : BlockInv s) (hp : s.tcPend = true) : s.idx = s.pulseLen := by
  have hb := busy_of_tcPend hs hp
  obtain ⟨-, -, -, hbusy, -⟩ := hs
  obtain ⟨-, -, -, -, -, hiff, -⟩ := hbusy hb
  exact hiff.1 hp

/-- With entries left completion does not pend (R44). -/
theorem tcPend_eq_false_of_idx_lt {s : State} (hs : BlockInv s) (hx : s.idx.toNat < s.pulseLen.toNat) :
    s.tcPend = false := by
  cases hp : s.tcPend
  · rfl
  · rw [idx_eq_of_tcPend hs hp] at hx
    exact absurd hx (lt_irrefl _)

/-- With no entry left IDX stands at PULSE_LEN (R44). -/
theorem idx_eq_of_pulseLen_le {s : State} (hs : BlockInv s) (hb : s.busy = true)
    (hx : s.pulseLen.toNat ≤ s.idx.toNat) : s.idx = s.pulseLen := by
  obtain ⟨-, -, -, hbusy, -⟩ := hs
  obtain ⟨-, -, -, -, hle, -⟩ := hbusy hb
  exact BitVec.eq_of_toNat_eq (le_antisymm hle hx)

/-- An exhausted frame has its terminator in CMP (R44, R45). -/
theorem cmp_eq_zero_of_exhausted {s : State} (hs : BlockInv s) (hb : s.busy = true) (hx : s.idx = s.pulseLen) :
    s.cmp = 0 := by
  obtain ⟨-, -, -, hbusy, ⟨-, hentries⟩, -⟩ := hs
  obtain ⟨-, hone, -, -, -, -, hcmp⟩ := hbusy hb
  rw [hcmp (hx ▸ hone), hx]
  exact (hentries hone).1

/-- Every entry of the frame is a high time below PWM_PERIOD (R42, R45, 00_scope.md R6). -/
theorem readPulse_lt_pwmPeriod {s : State} (hs : BlockInv s) {p : Nat} (hp : p < s.pulseLen.toNat) :
    (readPulse s p).toNat < s.cfg.pwmPeriod.toNat := by
  obtain ⟨⟨-, -, -, -, -, hshort, hlong⟩, -, -, -, ⟨-, hentries⟩, -⟩ := hs
  obtain ⟨hlast, hduties⟩ := hentries (by omega)
  by_cases hterm : p = s.pulseLen.toNat - 1
  · rw [hterm, hlast]
    exact Nat.zero_lt_of_lt hlong
  · rcases hduties p (by omega) with h | h <;> rw [h] <;> omega

/-! ### The moves keep the invariant -/

theorem blockInv_resetWith {c : Config} (n : Nat) (hc : c.Valid) : BlockInv (State.resetWith c n) :=
  ⟨hc, resetWith_ramWf c n, fun _ => ⟨rfl, rfl, rfl⟩, nofun, ⟨Nat.zero_le _, nofun⟩, nofun⟩

theorem blockInv_assertReset {s : State} (hc : s.cfg.Valid) : BlockInv (assertReset s) := by
  have hagree : Agrees (State.resetWith s.cfg s.draws) (assertReset s) := by constructor <;> rfl
  exact hagree.blockInv (blockInv_resetWith s.draws hc)

theorem dutyOf_cases (c : Config) (bit : Bool) : dutyOf c bit = c.dutyShort ∨ dutyOf c bit = c.dutyLong := by
  cases bit
  · exact .inl rfl
  · exact .inr rfl

theorem acceptStart_pulseLen {s : State} (hn : s.cfg.nLeds ≤ 341) (hl : s.frameLen.toNat ≤ s.cfg.nLeds) :
    (acceptStart s).pulseLen.toNat = 24 * s.frameLen.toNat + 1 := by
  simp only [acceptStart, arm_pulseLen, encodeFrame_pulseLen, BitVec.toNat_ofNat]
  omega

/-- An accepted START leaves a frame of duties closed by the terminator (R45). -/
theorem pulseInv_acceptStart {s : State} (hn : s.cfg.nLeds ≤ 341) (hl : s.frameLen.toNat ≤ s.cfg.nLeds) :
    PulseInv (acceptStart s) := by
  have hlen := acceptStart_pulseLen hn hl
  refine ⟨?_, fun _ => ⟨?_, fun p hp => ?_⟩⟩
  · rw [hlen]
    exact Nat.succ_le_succ (Nat.mul_le_mul_left 24 hl)
  · rw [hlen]
    exact readPulse_encodeFrame_terminator s _
  · rw [show readPulse (acceptStart s) p = _ from readPulse_encodeFrame_bit s s.frameLen.toNat p (by omega)]
    exact dutyOf_cases _ _

theorem blockInv_acceptStart {s : State} (hs : BlockInv s) (hl : s.frameLen.toNat ≤ s.cfg.nLeds) :
    BlockInv (acceptStart s) := by
  obtain ⟨hcfg, hram, -, -, -, hline⟩ := hs
  obtain ⟨-, hn, -⟩ := id hcfg
  have hlen := acceptStart_pulseLen hn hl
  have hpulse := pulseInv_acceptStart hn hl
  have hfresh : (0 : Half) ≠ (acceptStart s).pulseLen := fun h => by simp [← h] at hlen
  exact ⟨hcfg, encodeFrame_keeps_ramWf _ s hram hl, nofun,
    fun _ => ⟨rfl, by omega, hpulse.1, by omega, Nat.zero_le _, ⟨nofun, fun h => absurd h hfresh⟩, nofun⟩,
    hpulse, hline⟩

/-- Copying an entry of a frame in flight moves IDX on, and pends completion exactly with the last one (R127). -/
theorem blockInv_copyEntry {s : State} (hs : BlockInv s) (hb : s.busy = true) (hx : s.idx.toNat < s.pulseLen.toNat) :
    BlockInv (copyEntry s) := by
  have htc := tcPend_eq_false_of_idx_lt hs hx
  obtain ⟨hcfg, hram, -, hbusy, hpulse, hline⟩ := hs
  obtain ⟨hout, hone, hcap, hmod, -, -, -⟩ := hbusy hb
  have hnext : (s.idx + 1).toNat = s.idx.toNat + 1 :=
    BitVec.toNat_add_of_lt (lt_of_le_of_lt (Nat.succ_le_of_lt hx) s.pulseLen.isLt)
  refine ⟨hcfg, hram, fun h => absurd (h.symm.trans hb) nofun, fun _ => ?_, hpulse, hline⟩
  refine ⟨hout, hone, hcap, hmod, ?_, ?_, fun _ => ?_⟩
  · rw [copyEntry_idx, hnext]
    exact hx
  · simp [htc]
  · rw [copyEntry_idx, hnext]
    rfl

theorem blockInv_appendPeriod {s : State} (hs : BlockInv s) (hc : s.cmp.toNat < s.cfg.pwmPeriod.toNat) :
    BlockInv (appendPeriod s) := by
  obtain ⟨hcfg, hram, hidle, hbusy, hpulse, hline⟩ := hs
  refine ⟨hcfg, hram, hidle, hbusy, hpulse, fun h hh => ?_⟩
  rcases List.mem_append.1 hh with hh | hh
  · exact hline h hh
  · rw [List.mem_singleton.1 hh]
    exact hc

theorem blockInv_finishFrame {s : State} (hs : BlockInv s) (hc : s.cmp = 0) : BlockInv (finishFrame s) := by
  obtain ⟨hcfg, hram, -, -, hpulse, hline⟩ := hs
  exact ⟨hcfg, hram, fun _ => ⟨rfl, rfl, hc⟩, nofun, hpulse, hline⟩

/-- Every operation keeps the invariant. -/
theorem ExecCase.blockInv {i : Instr} {s t : State} (h : ExecCase i s t) (hs : BlockInv s) : BlockInv t := by
  obtain ⟨⟨-, -, -, -, -, -, hlong⟩, -⟩ := id hs
  cases h.transmitterCase with
  | kept ht => exact ht.blockInv hs
  | started v u _ hu _ hl ht => exact ht.blockInv (blockInv_acceptStart (hu.blockInv hs) hl)
  | copied _ ho hx =>
    exact blockInv_appendPeriod (blockInv_copyEntry hs (busy_of_outEn hs ho) hx) (readPulse_lt_pwmPeriod hs hx)
  | drained _ ho hx =>
    have hb := busy_of_outEn hs ho
    refine blockInv_appendPeriod hs ?_
    rw [cmp_eq_zero_of_exhausted hs hb (idx_eq_of_pulseLen_le hs hb hx)]
    exact Nat.zero_lt_of_lt hlong
  | finished _ hp =>
    exact blockInv_finishFrame hs (cmp_eq_zero_of_exhausted hs (busy_of_tcPend hs hp) (idx_eq_of_tcPend hs hp))

/-- Taking the next input leaves all that the invariant reads. -/
theorem agrees_of_fetch_run {s u : State} {i : Instr} (h : fetch s = .run i u) : Agrees s u := by
  rcases fetch_run_cases h with ⟨-, rfl, -⟩ | ⟨-, -, -, rfl, -⟩ <;> constructor <;> rfl

/-- Settles O12: every operation and the reset input keep the invariant, on the state that the fetch leaves. -/
theorem everyStepKeepsTheInvariant : Obligations.EveryStepKeepsTheInvariant := by
  intro s t hs h
  rcases step_cases h with ⟨i, u, hf, hc⟩ | ⟨u, hf, rfl⟩
  · exact hc.blockInv ((agrees_of_fetch_run hf).blockInv hs)
  · obtain ⟨rfl, -⟩ := fetch_restart hf
    obtain ⟨hcfg, -⟩ := hs
    exact blockInv_assertReset hcfg

/-- Settles O11: after reset the block is idle, PULSE_LEN is 0 and LINE is empty. -/
theorem resetStateMeetsTheInvariant : Obligations.ResetStateMeetsTheInvariant :=
  ⟨fun _ n hc => blockInv_resetWith n hc, blockInv_resetWith 0 (by decide)⟩

/-! ### The phases (10_state.md R38, 41_transmitter.md R120) -/

theorem phase_of_idle {s : State} (hb : s.busy = false) : phase s = .idle := by simp [phase, hb]

theorem phase_of_transmitting {s : State} (hb : s.busy = true) (hp : s.tcPend = false) : phase s = .transmitting := by
  simp [phase, hb, hp]

theorem phase_of_draining {s : State} (hb : s.busy = true) (hp : s.tcPend = true) : phase s = .draining := by
  simp [phase, hb, hp]

/-- Settles O30: of the four moves START leaves IDLE, the copy of an entry stays or pends completion, a period of a
drained frame stays, and the completion leaves DRAINING. -/
theorem noPhaseIsSkipped : Obligations.NoPhaseIsSkipped := by
  intro i s t hs h
  cases (exec_cases h).transmitterCase with
  | kept ht =>
    rw [ht.phase_eq]
    cases phase s <;> simp
  | started v u _ hu hb _ ht =>
    rw [phase_of_idle (hu.busy ▸ hb), ht.phase_eq]
    exact .inr rfl
  | copied _ ho hx =>
    have hb := busy_of_outEn hs ho
    rw [phase_of_transmitting hb (tcPend_eq_false_of_idx_lt hs hx)]
    cases hp : (copyEntry s).tcPend
    · exact .inl (phase_of_transmitting hb hp)
    · exact .inr (phase_of_draining hb hp)
  | drained _ ho hx =>
    have hkept : phase (appendPeriod s) = phase s := rfl
    rw [hkept]
    cases phase s <;> simp
  | finished _ hp =>
    rw [phase_of_draining (busy_of_tcPend hs hp) hp]
    exact .inr rfl

/-! ### The writers of each field (10_state.md R22, R46) -/

/-- R46: the bits that START and the events share are START's when idle and the events' when busy. -/
theorem sharedBits_writers {i : Instr} {s t : State} (hs : BlockInv s) (h : ExecCase i s t)
    (hne : t.busy ≠ s.busy ∨ t.tcPend ≠ s.tcPend ∨ t.outEn ≠ s.outEn) :
    (∃ v, i = .wrCtrl v ∧ s.busy = false) ∨ (i = .evPeriod ∧ s.busy = true) ∨
      (i = .evComplete ∧ s.busy = true) := by
  cases h.transmitterCase with
  | kept ht => simp [ht.busy, ht.tcPend, ht.outEn] at hne
  | started v u hi hu hb => exact .inl ⟨v, hi, hu.busy ▸ hb⟩
  | copied hi ho => exact .inr (.inl ⟨hi, busy_of_outEn hs ho⟩)
  | drained hi ho => exact .inr (.inl ⟨hi, busy_of_outEn hs ho⟩)
  | finished hi hp => exact .inr (.inr ⟨hi, busy_of_tcPend hs hp⟩)

/-- The fields that no CTRL write changes: the command writes the frame, the transmitter's bits and the sticky bits
only (41_transmitter.md R123 to R126). -/
theorem command_frame (v : Word) (s : State) :
    (command v s).color = s.color ∧ (command v s).frameLen = s.frameLen ∧ (command v s).cmp = s.cmp ∧
      (command v s).line = s.line ∧ (command v s).tick = s.tick ∧ (command v s).last = s.last := by
  obtain ⟨b, l, h | ⟨-, -, -, h⟩⟩ := command_cases v s <;> rw [h] <;> exact ⟨rfl, rfl, rfl, rfl, rfl, rfl⟩

/-- R22: the fields that only one operation writes, and IDX, which START and the periods write. -/
theorem ownFields_writers {i : Instr} {s t : State} (h : ExecCase i s t) :
    (t.color ≠ s.color → ∃ k v, i = .wrColor k v) ∧ (t.frameLen ≠ s.frameLen → ∃ v, i = .wrFrameLen v) ∧
      (t.pulse ≠ s.pulse ∨ t.pulseLen ≠ s.pulseLen → ∃ v, i = .wrCtrl v) ∧
      (t.cmp ≠ s.cmp ∨ t.line ≠ s.line → i = .evPeriod) ∧
      (t.idx ≠ s.idx → i = .evPeriod ∨ ∃ v, i = .wrCtrl v) ∧
      (t.errBusy ≠ s.errBusy ∨ t.errLen ≠ s.errLen → ∃ v, i = .wrCtrl v) ∧
      (t.tick ≠ s.tick → i = .evTick) ∧ (t.last ≠ s.last → ∃ ch, i = .rdCheck ch) := by
  cases h with
  | answer => simp
  | error => simp
  | color k v hi => simp [hi]
  | frameLen v hi => simp [hi]
  | ctrl v hi =>
    obtain ⟨hcolor, hlen, hcmp, hline, htick, hlast⟩ := command_frame v s
    simp [hi, hcolor, hlen, hcmp, hline, htick, hlast]
  | rearm ch hi => simp [hi]
  | tick hi => simp [hi]
  | period _ hi ht => cases ht <;> simp [hi]
  | spurious => simp
  | complete => simp

/-- Settles O46: the fields with a writer of their own, then under the invariant the three shared bits. -/
theorem eachFieldHasOneWriter : Obligations.EachFieldHasOneWriter := by
  intro i s t h
  have hc := exec_cases h
  obtain ⟨hcolor, hframeLen, hpulse, hline, hidx, herr, htick, hlast⟩ := ownFields_writers hc
  exact ⟨hcolor, hframeLen, hpulse, hline, hidx, herr, htick, hlast, fun hs => sharedBits_writers hs hc⟩

end Sys2Proof.Machine

/-! PROOFS. The family 20_memory.md: the decoder and the address map agree on the accesses that are turned away (R52 to
R54), a step runs the scheduled input (R58, R60), reads and writes repeat (R59), read-only registers ignore writes (R56),
and COLOR and FRAME_LEN reach nothing else without a START (R64). -/

namespace Sys2Proof

/-! ### The table's rows and the address map (20_memory.md R53, 30_encoding.md R80) -/

/-- The four areas of R53. -/
theorem offsetMapped_iff (c : Config) (ofs : Nat) :
    offsetMapped c ofs = true ↔
      ofs < 0x20 ∨ (0x20 ≤ ofs ∧ ofs < 0x20 + 0x10 * c.nTasks ∧ ofs % 16 ≠ 12) ∨
        (0x4000 ≤ ofs ∧ ofs < 0x4000 + 4 * c.nLeds) ∨ (0x8000 ≤ ofs ∧ ofs < 0x8000 + 4 * c.pulseCap) := by
  simp [offsetMapped, or_assoc]

/-- A word-sized, aligned read or write with RES = 0, by the number of its descriptor (R52, R70). -/
abbrev WordAccess (d : Word) : Prop := (d.toNat / 2 ^ 16 = 0x2000 ∨ d.toNat / 2 ^ 16 = 0x6000) ∧ d.toNat % 4 = 0

/-- Each of the eight registers has an exact row for reads and one for writes. -/
theorem exists_register_row (w : Fin 2) (j : Fin 8) :
    ∃ r ∈ opcodeRows, rowMask r = 0xFFFFFFFF ∧ (rowMatch r).toNat = 0x20000000 + 0x40000000 * w.val + 4 * j.val := by
  decide +revert

/-- Each of the three words of a channel has a row for reads and one for writes. -/
theorem exists_channel_row (w : Fin 2) (j : Fin 3) :
    ∃ r ∈ opcodeRows, rowMask r = 0xFFFFFF0F ∧ (rowMatch r).toNat = 0x20000000 + 0x40000000 * w.val + 4 * j.val := by
  decide +revert

theorem exists_color_row (w : Fin 2) :
    ∃ r ∈ opcodeRows, rowMask r = 0xFFFFC003 ∧ (rowMatch r).toNat = 0x20004000 + 0x40000000 * w.val := by
  decide +revert

theorem exists_pulse_row (w : Fin 2) :
    ∃ r ∈ opcodeRows, rowMask r = 0xFFFF8003 ∧ (rowMatch r).toNat = 0x20008000 + 0x40000000 * w.val := by
  decide +revert

/-- A match is an equation under the row's mask. -/
theorem rowMatches_of_mask {d mask : Word} {r : Row} (hr : rowMask r = mask) (h : d &&& mask = rowMatch r) :
    rowMatches d r = true := by
  rw [rowMatches, hr, h, beq_self_eq_true]

/-- An access below the channel area has its exact row. -/
theorem WordAccess.exists_exact_row {d : Word} (hd : WordAccess d) (hlow : d.toNat % 2 ^ 16 < 0x20) :
    ∃ r, rowMatches d r = true ∧ rowMask r = 0xFFFFFFFF := by
  obtain ⟨r, -, hmask, hmatch⟩ :=
    exists_register_row ⟨d.toNat / 2 ^ 30, by omega⟩ ⟨d.toNat % 2 ^ 16 / 4, by omega⟩
  dsimp only at hmatch
  have hword : d = rowMatch r := BitVec.eq_of_toNat_eq (by omega)
  exact ⟨r, rowMatches_of_mask hmask (by rw [hword]; exact BitVec.and_allOnes), hmask⟩

/-- Every word that the map gives an access has a row of the table. -/
theorem WordAccess.exists_row_of_mapped {c : Config} {d : Word} (hc : c.Valid) (hd : WordAccess d)
    (hmap : offsetMapped c (d.toNat % 2 ^ 16) = true) : ∃ r, rowMatches d r = true := by
  obtain ⟨-, hleds, -, htasks, -⟩ := hc
  have hcap : c.pulseCap ≤ 8185 := by unfold Config.pulseCap; omega
  have hw : d.toNat / 2 ^ 30 < 2 := by omega
  rcases (offsetMapped_iff c _).1 hmap with hlow | ⟨h₁, h₂, h₃⟩ | ⟨h₁, h₂⟩ | ⟨h₁, h₂⟩
  · obtain ⟨r, hr, -⟩ := hd.exists_exact_row hlow
    exact ⟨r, hr⟩
  · obtain ⟨r, -, hmask, hmatch⟩ := exists_channel_row ⟨d.toNat / 2 ^ 30, hw⟩ ⟨d.toNat % 16 / 4, by omega⟩
    dsimp only at hmatch
    exact ⟨r, rowMatches_of_mask hmask ((channelMask_iff d _ (by omega)).2 (by omega))⟩
  · obtain ⟨r, -, hmask, hmatch⟩ := exists_color_row ⟨d.toNat / 2 ^ 30, hw⟩
    dsimp only at hmatch
    exact ⟨r, rowMatches_of_mask hmask ((colorMask_iff d _ (by omega)).2 (by omega))⟩
  · obtain ⟨r, -, hmask, hmatch⟩ := exists_pulse_row ⟨d.toNat / 2 ^ 30, hw⟩
    dsimp only at hmatch
    exact ⟨r, rowMatches_of_mask hmask ((pulseMask_iff d _ (by omega)).2 (by omega))⟩

/-- An exact row wins against a channel row, so a channel row that is answered has a channel field of 2 or more
(30_encoding.md R77). -/
theorem WordAccess.two_le_chOf_of_bestRow {d : Word} {r : Row} (hd : WordAccess d) (hbest : bestRow d = some r)
    (hmask : rowMask r = 0xFFFFFF0F) (hpage : d.toNat % 2 ^ 16 < 0x100) : 2 ≤ d.toNat / 16 % 16 := by
  by_contra hch
  obtain ⟨r', hr', hmask'⟩ := hd.exists_exact_row (by omega)
  have hle := (bestRow_spec hbest).2 r' hr'
  rw [maskBits, maskBits, hmask, hmask'] at hle
  exact absurd hle (by decide)

/-- The condition of the answered row says that the map gives the access a word: a row's condition is the bound of its
area. -/
theorem WordAccess.rowCond_eq_mapped {c : Config} {d : Word} {r : Row} (hc : c.Valid) (hd : WordAccess d)
    (hbest : bestRow d = some r) : rowCond c d r = offsetMapped c (d.toNat % 2 ^ 16) := by
  obtain ⟨-, hleds, -, htasks, -⟩ := hc
  have hcap : c.pulseCap ≤ 8185 := by unfold Config.pulseCap; omega
  have hm := (rowMatches_iff d r).1 (bestRow_spec hbest).1
  rw [Bool.eq_iff_iff, offsetMapped_iff]
  cases r with
  | rdLast | rdPeriod | rdCheck | wrLast | wrPeriod | wrCheck =>
    obtain ⟨hlow, hhigh⟩ := hm
    have hch := hd.two_le_chOf_of_bestRow hbest rfl (by omega)
    simp only [rowCond, channelCond, chOf_toNat, Bool.and_eq_true, decide_eq_true_eq]
    omega
  | rdColor | wrColor =>
    obtain ⟨hlow, hhigh⟩ := hm
    simp only [rowCond, colorIxOf_toNat, decide_eq_true_eq]
    omega
  | rdPulse | wrPulse =>
    obtain ⟨hlow, hhigh⟩ := hm
    simp only [rowCond, pulseIxOf_toNat, decide_eq_true_eq]
    omega
  | evTick | evPeriod | evComplete =>
    obtain ⟨hkind, -⟩ := hd
    exact absurd hm (by simp only [rowMatch, BitVec.reduceToNat]; omega)
  | _ =>
    simp only [rowCond, true_iff, hm]
    exact .inl (by decide)

/-- No row of the table is BUS_ERROR (30_encoding.md R76). -/
theorem rowInstr_ne_busError (op : Operation) (r : Row) (d : Word) : rowInstr op r ≠ .busError d := by
  cases r <;> exact nofun

/-- The row search falls back to BUS_ERROR exactly off the map (20_memory.md R54). -/
theorem decodeMapped_eq_busError_iff {c : Config} {op : Operation} (hc : c.Valid) (hd : WordAccess op.descriptor)
    (d : Word) :
    decodeMapped c op = .busError d ↔
      op.descriptor = d ∧ offsetMapped c (op.descriptor.toNat % 2 ^ 16) = false := by
  cases hbest : bestRow op.descriptor with
  | none =>
    have hoff : offsetMapped c (op.descriptor.toNat % 2 ^ 16) = false := by
      by_contra hmap
      obtain ⟨r, hr⟩ := hd.exists_row_of_mapped hc (Bool.eq_true_of_not_eq_false hmap)
      rw [(bestRow_eq_none_iff _).1 hbest r] at hr
      exact absurd hr nofun
    simp only [decodeMapped, hbest, hoff, Instr.busError.injEq, and_true]
  | some r =>
    simp only [decodeMapped, hbest, hd.rowCond_eq_mapped hc hbest]
    cases offsetMapped c (op.descriptor.toNat % 2 ^ 16)
    · simp
    · simp [rowInstr_ne_busError]

/-- The accesses that are answered with an error, by the numbers of the fields (20_memory.md R52, R54). -/
theorem accessErrs_iff (c : Config) (d : Word) :
    accessErrs c d = true ↔
      d.toNat / 2 ^ 30 < 2 ∧ d.toNat / 2 ^ 16 % 2 ^ 12 = 0 ∧ d.toNat / 2 ^ 28 % 4 ≠ 3 ∧
        (d.toNat / 2 ^ 28 % 4 ≠ 2 ∨ d.toNat % 4 ≠ 0 ∨ offsetMapped c (d.toNat % 2 ^ 16) = false) := by
  have hkind : d.toNat / 2 ^ 31 = 0 ↔ d.toNat / 2 ^ 30 < 2 := by omega
  simp only [accessErrs, Bool.and_eq_true, Bool.or_eq_true, decide_eq_true_eq, Bool.not_eq_true', hkind, and_assoc,
    or_assoc]

/-- BUS_ERROR is the answer exactly for the accesses that the map turns away, with the access's own descriptor. -/
theorem decode_eq_busError_iff {c : Config} (hc : c.Valid) (op : Operation) (d : Word) :
    decode c op = .operation (.busError d) ↔ op.descriptor = d ∧ accessErrs c op.descriptor = true := by
  have hlt := op.descriptor.isLt
  rw [decode_by_fields, accessErrs_iff]
  by_cases haccess : op.descriptor.toNat / 2 ^ 30 < 2 ∧ op.descriptor.toNat / 2 ^ 16 % 2 ^ 12 = 0 ∧
      op.descriptor.toNat / 2 ^ 28 % 4 ≠ 3
  · obtain ⟨hkind, hres, hnone⟩ := haccess
    rw [if_neg (by omega), if_neg (by omega), if_neg (by omega), if_neg hnone]
    by_cases hword : op.descriptor.toNat / 2 ^ 28 % 4 ≠ 2 ∨ op.descriptor.toNat % 4 ≠ 0
    · rw [if_pos hword, Verdict.operation.injEq, Instr.busError.injEq]
      exact (and_iff_left ⟨hkind, hres, hnone, or_assoc.1 (.inl hword)⟩).symm
    · obtain ⟨hsize, halign⟩ := not_or.1 hword
      rw [if_neg hword, Verdict.operation.injEq, decodeMapped_eq_busError_iff hc ⟨by omega, by omega⟩]
      exact and_congr_right fun _ => ⟨fun h => ⟨hkind, hres, hnone, .inr (.inr h)⟩,
        fun ⟨_, _, _, h⟩ => (or_assoc.2 h).resolve_left hword⟩
  · -- Of what is no access the decoder answers an event or INVALID.
    refine iff_of_false (fun h => haccess ?_) fun ⟨_, hkind, hres, hnone, _⟩ => haccess ⟨hkind, hres, hnone⟩
    split_ifs at h <;> simp only [reduceCtorEq, Verdict.operation.injEq] at h <;> omega

/-- Settles O5: the decoder's BUS_ERROR is the map's, and its descriptor is the access's own. -/
theorem busErrorExactlyOffTheMap : Obligations.BusErrorExactlyOffTheMap := by
  intro c op hc
  have herrs (h : accessErrs c op.descriptor = true) : decode c op = .operation (.busError op.descriptor) :=
    (decode_eq_busError_iff hc op _).2 ⟨rfl, h⟩
  exact ⟨⟨fun ⟨d, h⟩ => ((decode_eq_busError_iff hc op d).1 h).2, fun h => ⟨_, herrs h⟩⟩, herrs⟩

end Sys2Proof

namespace Sys2Proof.Machine

open Sys2Proof.Safety

/-! ### The step (20_memory.md R58, R60) -/

theorem step_of_fetch_run {s t : State} {i : Instr} (h : fetch s = .run i t) : step s = exec i t := by
  simp only [step, h]

theorem popInput_eq {s : State} {head : Input} {rest : List Input} (h : s.schedule = head :: rest) :
    popInput s = { s with schedule := rest } := by
  rw [popInput, h, List.tail_cons]

/-- A scheduled operation is what the decoder makes of it, on the state without that input. -/
theorem fetch_of_decode {s : State} {op : Operation} {rest : List Input} {i : Instr}
    (hs : s.schedule = .operation op :: rest) (hd : decode s.cfg op = .operation i) :
    fetch s = .run i { s with schedule := rest } := by
  rw [fetch_operation s op rest hs, popInput_eq hs]
  simp only [fetchOperation, hd]

/-- The internal events are the events of the statements. -/
theorem isEvent_eventOf (n : Fin 3) : isEvent (eventOf n) = true := by
  decide +revert

/-- A descriptor alone is an operation with the data word 0 (30_encoding.md R70). -/
theorem operationOfBits_descriptor {w : Nat} (hw : w < 2 ^ 32) : operationOfBits 32 w = ⟨BitVec.ofNat 32 w, 0⟩ := by
  rw [operationOfBits, Nat.mod_eq_of_lt hw, Nat.div_eq_of_lt hw]
  rfl

/-- Settles O7: each clause is one case of the fetch. -/
theorem stepRunsTheDecodedInstruction : Obligations.StepRunsTheDecodedInstruction := by
  refine ⟨fun s op rest i hs hd => step_of_fetch_run (fetch_of_decode hs hd), fun s op rest why hs hd => ?_,
    fun s hs => ⟨_, isEvent_eventOf _, step_of_fetch_run (fetch_idle s hs)⟩, fun s w i hw hd => step_of_fetch_run ?_⟩
  · have hfetch : fetch s = .invalid why op.descriptor := by
      rw [fetch_operation s op rest hs]
      simp only [fetchOperation, popInput_cfg, hd]
    simp only [step, hfetch]
  · rw [State.withFetchWord, fetch_pushOperation, operationOfBits_descriptor hw]
    simp only [fetchOperation, hd]

/-- Settles O9: reset keeps the schedule that the fetch leaves, and its record of answers starts empty. -/
theorem resetInputKeepsTheSchedule : Obligations.ResetInputKeepsTheSchedule := by
  intro s rest hs
  refine ⟨assertReset (popInput s), ?_, rfl, ?_, rfl⟩
  · simp only [step, fetch_reset s rest hs]
  · rw [assertReset_schedule, popInput_schedule, hs, List.tail_cons]

/-- Settles O44: such an access decodes to the bus error of its own descriptor, which only records it. -/
theorem refusedAccessChangesNoState : Obligations.RefusedAccessChangesNoState := by
  intro s op rest hc hs hkind hres hsize hrefused
  have herrs := (accessErrs_iff s.cfg op.descriptor).2 ⟨hkind, hres, hsize, hrefused⟩
  rw [step_of_fetch_run (fetch_of_decode hs ((decode_eq_busError_iff hc op _).2 ⟨rfl, herrs⟩))]
  rfl

/-! ### What reads return and writes do (20_memory.md R54, R56, R59) -/

/-- The value of a read other than CHECK_i. -/
def readValue : Instr → State → Word
  | .rdStatus, s => statusWord s
  | .rdFrameLen, s => zextHalf s.frameLen
  | .rdTick, s => s.tick
  | .rdCfg0, s => cfg0Word s.cfg
  | .rdCfg1, s => cfg1Word s.cfg
  | .rdCfg2, s => cfg2Word s.cfg
  | .rdXfer, s => xferWord s
  | .rdLast ch, s => readLast s ch.val
  | .rdPeriod ch, s => taskPeriodOf s.cfg ch.val
  | .rdColor k, s => zextColor (readColor s k.toNat)
  | .rdPulse j, s => zextHalf (readPulse s j.toNat)
  | _, _ => 0

/-- What a write changes beside its answer: a read-only register ignores it (R56). -/
def writeEffect : Instr → State → State
  | .wrCtrl v, s => command v s
  | .wrFrameLen v, s => setFrameLen (frameLenBits v) s
  | .wrColor k v, s => writeColor k.toNat (colorOfData v) s
  | _, s => s

theorem onIndexed_of_present {i : Instr} {present : Bool} {effect : State → State} {s : State}
    (h : present = true) : onIndexed i present effect s = effect s := by
  rw [h, onIndexed_present]

theorem onIndexed_of_absent {i : Instr} {present : Bool} {effect : State → State} {s : State}
    (h : present = false) : onIndexed i present effect s = errored s (encode i).descriptor := by
  rw [h, onIndexed_absent]
  rfl

/-- A read of an existing word returns its value and changes nothing. -/
theorem exec_read {i : Instr} {s : State} (hr : isRead i = true) (hcheck : ∀ ch, i ≠ .rdCheck ch)
    (hw : i.wf s.cfg = true) : exec i s = .next (answered s (.data (readValue i s))) := by
  cases i with
  | rdCtrl | rdStatus | rdFrameLen | rdTick | rdCfg0 | rdCfg1 | rdCfg2 | rdXfer => rfl
  | rdLast | rdPeriod | rdColor | rdPulse => exact congrArg _ (onIndexed_of_present hw)
  | rdCheck ch => exact absurd rfl (hcheck ch)
  | _ => cases hr

/-- An answer changes no value that a read returns. -/
@[simp] theorem readValue_answered (i : Instr) (s : State) (r : Response) :
    readValue i (answered s r) = readValue i s := by
  cases i <;> rfl

/-- A write of an existing word has its effect and completes. -/
theorem exec_write {i : Instr} {s : State} {v : Word} (hv : writeData i = some v) (hw : i.wf s.cfg = true) :
    exec i s = .next (completeWrite (writeEffect i s)) := by
  cases i with
  | wrCtrl | wrStatus | wrFrameLen | wrTick | wrCfg0 | wrCfg1 | wrCfg2 | wrXfer => rfl
  | wrLast | wrPeriod | wrCheck | wrColor | wrPulse => exact congrArg _ (onIndexed_of_present hw)
  | _ => cases hv

/-- An access to an index that does not exist is the bus error of its own descriptor (R54). -/
theorem exec_of_not_wf {i : Instr} {s : State} (hw : i.wf s.cfg = false) :
    exec i s = .next (errored s (encode i).descriptor) := by
  cases i with
  | rdLast | rdPeriod | rdCheck | rdColor | rdPulse | wrLast | wrPeriod | wrCheck | wrColor | wrPulse =>
    exact congrArg _ (onIndexed_of_absent hw)
  | busError => rfl
  | _ => cases hw

theorem writeEffect_cfg (i : Instr) (s : State) : (writeEffect i s).cfg = s.cfg := by
  cases i with
  | wrCtrl v =>
    obtain ⟨b, l, h | ⟨-, -, -, h⟩⟩ := command_cases v s
    · rw [writeEffect, h]
    · rw [writeEffect, h]
      rfl
  | _ => rfl

/-- Without START a command only clears the sticky bits, which a second one finds cleared (41_transmitter.md R126). -/
theorem command_idempotent {v : Word} (hv : startBit v = false) (s : State) :
    command v (completeWrite (command v s)) = completeWrite (command v s) := by
  simp only [command_eq, hv]
  cases errClrBit v <;> rfl

/-- A write other than a START has its effect once (R59). -/
theorem writeEffect_idempotent {i : Instr} (hi : ∀ v, i = .wrCtrl v → startBit v = false) (s : State) :
    writeEffect i (completeWrite (writeEffect i s)) = completeWrite (writeEffect i s) := by
  cases i with
  | wrCtrl v => exact command_idempotent (hi v rfl) s
  | wrColor k v => simp only [writeEffect, writeColor, completeWrite, List.set_set]
  | _ => rfl

/-- A command with START that finds the block busy leaves ERR_BUSY set (R124). -/
theorem command_errBusy_of_busy {v : Word} {s : State} (hv : startBit v = true) (hb : s.busy = true) :
    (command v s).errBusy = true := by
  have hb' : (if errClrBit v then clearErrors s else s).busy = true := by
    cases errClrBit v <;> exact hb
  rw [command_eq, if_pos hv, startFrame, if_pos hb']
  rfl

/-- Settles O47: a read's value does not depend on the answers, and a write's effect is idempotent. -/
theorem readsAndWritesRepeat : Obligations.ReadsAndWritesRepeat := by
  refine ⟨fun i s hr hcheck hw => ⟨readValue i s, exec_read hr hcheck hw, ?_⟩, fun i s t v hv hw hi h => ?_,
    fun s t v hv hb h => ?_⟩
  · rw [exec_read (s := answered s _) hr hcheck hw, readValue_answered]
  · rw [exec_write hv hw, Host.Outcome.next.injEq] at h
    subst h
    have hstart (u : Word) (hu : i = .wrCtrl u) : startBit u = false := by
      subst hu
      cases hv
      exact hi rfl
    rw [exec_write hv (by rw [completeWrite_cfg, writeEffect_cfg, hw]), writeEffect_idempotent hstart]
    rfl
  · rw [exec_write (i := .wrCtrl v) rfl rfl, Host.Outcome.next.injEq] at h
    exact h ▸ command_errBusy_of_busy hv hb

/-! ### Writes to read-only registers (20_memory.md R56) -/

theorem encode_data_of_write {i : Instr} {v : Word} (hv : writeData i = some v) : (encode i).data = v := by
  cases i <;> cases hv <;> rfl

/-- The words of a write, from the number of its descriptor. -/
theorem encode_write_eq {i : Instr} {v : Word} {n : Nat} (hv : writeData i = some v)
    (hn : (encode i).descriptor.toNat = n) : encode i = ⟨BitVec.ofNat 32 n, v⟩ := by
  rw [← descriptor_eq_ofNat i n hn, ← encode_data_of_write hv]

/-- A write without effect completes and changes nothing. -/
theorem exec_write_of_no_effect {i : Instr} {s : State} {v : Word} (hv : writeData i = some v)
    (heffect : writeEffect i s = s) (hw : i.wf s.cfg = true) : exec i s = .next (answered s .written) := by
  rw [exec_write hv hw, heffect]
  rfl

/-- Settles O28: none of the ten rows has an effect, and the indexed ones exist exactly below their bound. -/
theorem writesToReadOnlyRegistersAreIgnored : Obligations.WritesToReadOnlyRegistersAreIgnored := by
  intro s v
  refine ⟨fun i hi => ?_, fun ch i hi => ?_, fun j => ⟨fun hj => ?_, fun hj => ?_⟩, rfl, rfl, rfl, rfl, rfl, rfl,
    fun ch => ⟨?_, ?_, ?_⟩, fun j => ?_⟩
  · simp only [List.mem_cons, List.not_mem_nil, or_false] at hi
    rcases hi with rfl | rfl | rfl | rfl | rfl | rfl <;> exact exec_write_of_no_effect (v := v) rfl rfl rfl
  · obtain ⟨hv, heffect, hw⟩ :
        writeData i = some v ∧ writeEffect i s = s ∧ i.wf s.cfg = decide (ch.val < s.cfg.nTasks) := by
      simp only [List.mem_cons, List.not_mem_nil, or_false] at hi
      rcases hi with rfl | rfl | rfl <;> exact ⟨rfl, rfl, rfl⟩
    exact ⟨fun hch => exec_write_of_no_effect hv heffect (hw.trans (decide_eq_true hch)),
      fun hch => exec_of_not_wf (hw.trans (decide_eq_false hch.not_gt))⟩
  · exact exec_write_of_no_effect (v := v) rfl rfl (decide_eq_true hj)
  · exact exec_of_not_wf (decide_eq_false hj.not_gt)
  all_goals exact encode_write_eq rfl (encode_descriptor_toNat _)

/-! ### COLOR and FRAME_LEN reach nothing else (20_memory.md R64) -/

/-- `s` without what COLOR, FRAME_LEN and the answers hold: two states agree on the rest when these are equal. -/
def hideFrame (s : State) : State := { s with color := [], frameLen := 0, responses := [] }

theorem hideFrame_eq_iff (s t : State) :
    hideFrame t = hideFrame s ↔ t = { s with color := t.color, frameLen := t.frameLen, responses := t.responses } := by
  cases s
  cases t
  simp [hideFrame]

/-- A choice between two updates that does not look at what is hidden. -/
theorem hideFrame_ite {p : Prop} [Decidable p] {a b a' b' : State} (ha : hideFrame a' = hideFrame a)
    (hb : hideFrame b' = hideFrame b) : hideFrame (if p then a' else b') = hideFrame (if p then a else b) := by
  split
  · exact ha
  · exact hb

/-- A period looks at CMP alone (41_transmitter.md R128). -/
theorem hideFrame_appendPeriod {a a' : State} (h : hideFrame a' = hideFrame a) :
    hideFrame (appendPeriod a') = hideFrame (appendPeriod a) :=
  congrArg appendPeriod h

/-- An operation other than a CTRL write does the same to the rest whatever COLOR and FRAME_LEN hold. -/
theorem exec_hideFrame {i : Instr} {s t u : State} (hi : ∀ v, i ≠ .wrCtrl v) (h : exec i s = .next t)
    (h' : exec i (hideFrame s) = .next u) : hideFrame u = hideFrame t := by
  cases i with
  | wrCtrl v => exact absurd rfl (hi v)
  | rdLast | rdPeriod | rdColor | rdPulse | wrLast | wrPeriod | wrCheck | wrColor | wrPulse | evComplete =>
    cases h
    cases h'
    exact hideFrame_ite rfl rfl
  | rdCheck ch =>
    cases h
    cases h'
    exact hideFrame_ite (hideFrame_ite rfl rfl) rfl
  | evPeriod =>
    cases h
    cases h'
    exact hideFrame_ite (hideFrame_appendPeriod (hideFrame_ite rfl rfl)) rfl
  | _ =>
    cases h
    cases h'
    rfl

/-- A run without a CTRL write does the same to the rest whatever COLOR and FRAME_LEN hold. -/
theorem execAll_hideFrame {ops : List Instr} (hops : ∀ op ∈ ops, ∀ v, op ≠ .wrCtrl v) {s s' t t' : State}
    (hs : hideFrame s' = hideFrame s) (h : execAll ops s = .next t) (h' : execAll ops s' = .next t') :
    hideFrame t' = hideFrame t := by
  induction ops generalizing s s' with
  | nil =>
    cases h
    cases h'
    exact hs
  | cons op ops ih =>
    obtain ⟨hop, hops⟩ := List.forall_mem_cons.1 hops
    obtain ⟨r, hr, h⟩ := execAll_cons.1 h
    obtain ⟨r', hr', h'⟩ := execAll_cons.1 h'
    obtain ⟨u, hu, -⟩ := exec_next op (hideFrame s)
    have hrest : hideFrame u = hideFrame r' := exec_hideFrame hop hr' (hs ▸ hu)
    exact ih hops (hrest.symm.trans (exec_hideFrame hop hr hu)) h h'

/-- Settles O32: the two states agree on the rest at the start, and every operation keeps that. -/
theorem colorsReachNothingWithoutStart : Obligations.ColorsReachNothingWithoutStart := by
  intro ops s s' t t' hops hs h h'
  exact (hideFrame_eq_iff t t').1 (execAll_hideFrame hops ((hideFrame_eq_iff s s').2 hs) h h')

end Sys2Proof.Machine

/-! PROOFS. The family 30_encoding.md: the rows that match one descriptor (R77), the decoder answers exactly the
instruction that the words spell (R74 to R76, R80), where it answers INVALID (R76, R78), and a START after BUSY was read
as 0 (R83). -/

namespace Sys2Proof

open Sys2Proof.Safety

/-! ### The rows that match one descriptor (30_encoding.md R77) -/

/-- `r` is an exact row inside the page of the channel row `r'`, with its low nibble. -/
abbrev Shadows (r r' : Row) : Prop :=
  rowMask r = 0xFFFFFFFF ∧ rowMask r' = 0xFFFFFF0F ∧ (rowMatch r').toNat % 16 = (rowMatch r).toNat % 16

/-- Two matches of one descriptor agree on the bits that both masks compare. -/
theorem rowMatch_agree {d : Word} {r r' : Row} (h : rowMatches d r = true) (h' : rowMatches d r' = true) :
    rowMatch r &&& rowMask r' = rowMatch r' &&& rowMask r := by
  rw [rowMatches, beq_iff_eq] at h h'
  rw [← h, ← h', BitVec.and_assoc, BitVec.and_assoc, BitVec.and_comm (rowMask r)]

/-- Of the table's rows no others agree on the bits that both masks compare. -/
theorem rows_agree_cases : ∀ r ∈ opcodeRows, ∀ r' ∈ opcodeRows,
    rowMatch r &&& rowMask r' = rowMatch r' &&& rowMask r → r = r' ∨ Shadows r r' ∨ Shadows r' r := by
  decide

/-- Two rows that match one descriptor are the same, or an exact row and a channel row of its low nibble. -/
theorem rows_of_one_descriptor {d : Word} {r r' : Row} (h : rowMatches d r = true) (h' : rowMatches d r' = true) :
    r = r' ∨ Shadows r r' ∨ Shadows r' r :=
  rows_agree_cases r (mem_opcodeRows r) r' (mem_opcodeRows r') (rowMatch_agree h h')

theorem maskBits_lt_of_shadows {r r' : Row} (h : Shadows r r') : maskBits r' < maskBits r := by
  obtain ⟨hexact, hchannel, -⟩ := h
  simp only [maskBits, hexact, hchannel]
  decide

/-- Rows of one descriptor with equally many mask bits are the same. -/
theorem row_eq_of_maskBits_eq {d : Word} {r r' : Row} (h : rowMatches d r = true) (h' : rowMatches d r' = true)
    (hbits : maskBits r = maskBits r') : r = r' := by
  rcases rows_of_one_descriptor h h' with heq | hr | hr
  · exact heq
  · exact absurd hbits (maskBits_lt_of_shadows hr).ne'
  · exact absurd hbits (maskBits_lt_of_shadows hr).ne

/-- A row that matches is the answer of the search unless an exact row shadows it. -/
theorem bestRow_eq_some {d : Word} {r : Row} (h : rowMatches d r = true)
    (hno : ∀ r', rowMatches d r' = true → ¬ Shadows r' r) : bestRow d = some r := by
  cases hbest : bestRow d with
  | none => exact absurd ((bestRow_eq_none_iff d).1 hbest r) (by simp [h])
  | some b =>
    obtain ⟨hb, hmax⟩ := bestRow_spec hbest
    rcases rows_of_one_descriptor hb h with heq | hr | hr
    · rw [heq]
    · exact absurd hr (hno b hb)
    · exact absurd (hmax r h) (maskBits_lt_of_shadows hr).not_ge

/-- A channel row's match has OFS[15:8] and OFS[7:4] at 0, a COLOR row's OFS[15:14] at 1 and a PULSE row's OFS[15]
at 1; what they leave out of the comparison is 0. -/
theorem rowMatch_fields (r : Row) :
    (rowMask r = 0xFFFFFF0F → (rowMatch r).toNat / 2 ^ 4 % 2 ^ 12 = 0) ∧
      (rowMask r = 0xFFFFC003 → (rowMatch r).toNat / 2 ^ 2 % 2 ^ 14 = 2 ^ 12) ∧
      (rowMask r = 0xFFFF8003 → (rowMatch r).toNat / 2 ^ 2 % 2 ^ 14 = 2 ^ 13) := by
  cases r <;> decide

/-- The bits of OFS by which the channel, COLOR and PULSE rows exclude each other. -/
theorem offset_bits_of_rowMatches {d : Word} {r : Row} (h : rowMatches d r = true) :
    (rowMask r = 0xFFFFFF0F → d.toNat / 2 ^ 8 % 2 ^ 8 = 0) ∧ (rowMask r = 0xFFFFC003 → d.toNat / 2 ^ 14 % 4 = 1) ∧
      (rowMask r = 0xFFFF8003 → d.toNat / 2 ^ 15 % 2 = 1) := by
  obtain ⟨hchannel, hcolor, hpulse⟩ := rowMatch_fields r
  rw [rowMatches, beq_iff_eq] at h
  refine ⟨fun hmask => ?_, fun hmask => ?_, fun hmask => ?_⟩ <;> rw [hmask] at h
  · have hfield := hchannel hmask
    have hmatch := (channelMask_iff d _ (by omega)).1 h
    omega
  · have hfield := hcolor hmask
    have hmatch := (colorMask_iff d _ (by omega)).1 h
    omega
  · have hfield := hpulse hmask
    have hmatch := (pulseMask_iff d _ (by omega)).1 h
    omega

/-! ### From a row to the decoder's answer (R76) -/

/-- A row of an access matches word accesses only; the other rows are the events'. -/
theorem wordAccess_or_event_of_rowMatches {d : Word} {r : Row} (h : rowMatches d r = true) :
    WordAccess d ∨ r ∈ [Row.evTick, .evPeriod, .evComplete] := by
  have hm := (rowMatches_iff d r).1 h
  cases r with
  | evTick | evPeriod | evComplete => exact .inr (by decide)
  | rdLast | rdPeriod | rdCheck | wrLast | wrPeriod | wrCheck | rdColor | wrColor | rdPulse | wrPulse =>
    obtain ⟨hlow, hhigh⟩ := hm
    exact .inl ⟨by omega, by omega⟩
  | _ =>
    simp only [WordAccess, hm]
    exact .inl (by decide)

/-- A word access takes the row search. -/
theorem WordAccess.decode_eq {op : Operation} (hd : WordAccess op.descriptor) (c : Config) :
    decode c op = .operation (decodeMapped c op) := by
  obtain ⟨hkind, halign⟩ := hd
  rw [decode_by_fields, if_neg (by omega), if_neg (by omega), if_neg (by omega), if_neg (by omega), if_neg (by omega)]

/-- The condition of the channel rows, by the number of the channel field. -/
theorem channelCond_iff (c : Config) (d : Word) :
    channelCond c d = true ↔ 2 ≤ d.toNat / 16 % 16 ∧ d.toNat / 16 % 16 - 2 < c.nTasks := by
  simp only [channelCond, chOf_toNat, Bool.and_eq_true, decide_eq_true_eq]

/-- The channel condition asks for `OFS[7:4] ≥ 2`, where no exact row is, so a row whose condition holds is not
shadowed. -/
theorem not_shadows_of_rowCond {c : Config} {d : Word} {r r' : Row} (h : rowMatches d r = true)
    (hcond : rowCond c d r = true) (h' : rowMatches d r' = true) : ¬ Shadows r' r := by
  rintro ⟨hexact, hchannel, -⟩
  have hch : 2 ≤ d.toNat / 16 % 16 := by
    cases r with
    | rdLast | rdPeriod | rdCheck | wrLast | wrPeriod | wrCheck =>
      exact ((channelCond_iff c d).1 hcond).1
    | _ => exact absurd hchannel (by decide)
  have hword : d = rowMatch r' := by
    rw [rowMatches, beq_iff_eq, hexact] at h'
    exact (BitVec.and_allOnes (x := d)).symm.trans h'
  have hlow : ∀ r ∈ opcodeRows, rowMask r = 0xFFFFFFFF → (rowMatch r).toNat / 16 % 16 < 2 := by decide
  exact absurd hch (hword ▸ hlow r' (mem_opcodeRows r') hexact).not_ge

/-- A row that matches and whose condition holds is the decoder's answer. -/
theorem decode_of_row {c : Config} {op : Operation} {r : Row} (h : rowMatches op.descriptor r = true)
    (hcond : rowCond c op.descriptor r = true) : decode c op = .operation (rowInstr op r) := by
  rcases wordAccess_or_event_of_rowMatches h with hd | hevent
  · have hbest := bestRow_eq_some h fun _ => not_shadows_of_rowCond h hcond
    simp only [hd.decode_eq c, decodeMapped, hbest, hcond, if_true]
  · have hm := (rowMatches_iff _ _).1 h
    simp only [List.mem_cons, List.not_mem_nil, or_false] at hevent
    rcases hevent with rfl | rfl | rfl <;> rw [decode_by_fields, hm] <;> rfl

/-- What the row search answers: the access's bus error, or a row that matches and whose condition holds. -/
theorem decodeMapped_cases (c : Config) (op : Operation) :
    decodeMapped c op = .busError op.descriptor ∨
      ∃ r, rowMatches op.descriptor r = true ∧ rowCond c op.descriptor r = true ∧
        decodeMapped c op = rowInstr op r := by
  cases hbest : bestRow op.descriptor with
  | none => exact .inl (by simp only [decodeMapped, hbest])
  | some r =>
    cases hcond : rowCond c op.descriptor r
    · exact .inl (by simp [decodeMapped, hbest, hcond])
    · exact .inr ⟨r, (bestRow_spec hbest).1, hcond, by simp only [decodeMapped, hbest, hcond, if_true]⟩

/-- The decoder answers the access's bus error, or the instruction of a row that matches and whose condition holds. -/
theorem decode_operation_cases {c : Config} {op : Operation} {i : Instr} (h : decode c op = .operation i) :
    i = .busError op.descriptor ∨
      ∃ r, rowMatches op.descriptor r = true ∧ rowCond c op.descriptor r = true ∧ i = rowInstr op r := by
  have hlt := op.descriptor.isLt
  rw [decode_by_fields] at h
  split_ifs at h <;> cases h
  · exact .inr ⟨.evTick, (rowMatches_iff _ _).2 (show _ = 0x80000000 by omega), rfl, rfl⟩
  · exact .inr ⟨.evPeriod, (rowMatches_iff _ _).2 (show _ = 0x80000001 by omega), rfl, rfl⟩
  · exact .inr ⟨.evComplete, (rowMatches_iff _ _).2 (show _ = 0x80000002 by omega), rfl, rfl⟩
  · exact .inl rfl
  · exact decodeMapped_cases c op

/-! ### The words that spell an instruction (R74, R75) -/

/-- `op` is an issue of the well-formed `i`: its descriptor, and for a write its data word. -/
abbrev Spells (c : Config) (op : Operation) (i : Instr) : Prop :=
  i.wf c = true ∧ (encode i).descriptor = op.descriptor ∧ ∀ v, writeData i = some v → v = op.data

theorem channelOf_val (d : Word) : (channelOf d).val = d.toNat / 16 % 16 - 2 := by
  simp only [channelOf, Fin.ofNat, chOf_toNat]
  omega

/-- A row whose condition holds gives a well-formed instruction. -/
theorem wf_rowInstr {c : Config} {op : Operation} {r : Row} (hcond : rowCond c op.descriptor r = true) :
    (rowInstr op r).wf c = true := by
  cases r with
  | rdLast | rdPeriod | rdCheck | wrLast | wrPeriod | wrCheck =>
    obtain ⟨-, hbound⟩ := (channelCond_iff c _).1 hcond
    simp only [rowInstr, Instr.wf, channelOf_val, hbound, decide_true]
  | _ => exact hcond

/-- The operands pulled out of a descriptor put it together again. -/
theorem encode_rowInstr_descriptor {c : Config} {op : Operation} {r : Row} (h : rowMatches op.descriptor r = true)
    (hcond : rowCond c op.descriptor r = true) : (encode (rowInstr op r)).descriptor = op.descriptor := by
  have hm := (rowMatches_iff _ _).1 h
  apply BitVec.eq_of_toNat_eq
  cases r with
  | rdLast | rdPeriod | rdCheck | wrLast | wrPeriod | wrCheck =>
    obtain ⟨hlow, hhigh⟩ := hm
    obtain ⟨hch, -⟩ := (channelCond_iff c _).1 hcond
    simp only [encode_descriptor_toNat, rowInstr, channelOf_val]
    omega
  | rdColor | wrColor =>
    obtain ⟨hlow, hhigh⟩ := hm
    simp only [encode_descriptor_toNat, rowInstr, colorIxOf_toNat]
    omega
  | rdPulse | wrPulse =>
    obtain ⟨hlow, hhigh⟩ := hm
    simp only [encode_descriptor_toNat, rowInstr, pulseIxOf_toNat]
    omega
  | _ => exact hm.symm

/-- A write's data word is the one beside the descriptor. -/
theorem writeData_rowInstr {op : Operation} {r : Row} {v : Word} (hv : writeData (rowInstr op r) = some v) :
    v = op.data := by
  cases r <;> cases hv <;> rfl

theorem spells_rowInstr {c : Config} {op : Operation} {r : Row} (h : rowMatches op.descriptor r = true)
    (hcond : rowCond c op.descriptor r = true) : Spells c op (rowInstr op r) :=
  ⟨wf_rowInstr hcond, encode_rowInstr_descriptor h hcond, fun _ => writeData_rowInstr⟩

/-- The row of an instruction; BUS_ERROR has none (R76). -/
def rowOf : Instr → Option Row
  | .rdCtrl => some .rdCtrl
  | .rdStatus => some .rdStatus
  | .rdFrameLen => some .rdFrameLen
  | .rdTick => some .rdTick
  | .rdCfg0 => some .rdCfg0
  | .rdCfg1 => some .rdCfg1
  | .rdCfg2 => some .rdCfg2
  | .rdXfer => some .rdXfer
  | .rdLast _ => some .rdLast
  | .rdPeriod _ => some .rdPeriod
  | .rdCheck _ => some .rdCheck
  | .rdColor _ => some .rdColor
  | .rdPulse _ => some .rdPulse
  | .wrCtrl _ => some .wrCtrl
  | .wrStatus _ => some .wrStatus
  | .wrFrameLen _ => some .wrFrameLen
  | .wrTick _ => some .wrTick
  | .wrCfg0 _ => some .wrCfg0
  | .wrCfg1 _ => some .wrCfg1
  | .wrCfg2 _ => some .wrCfg2
  | .wrXfer _ => some .wrXfer
  | .wrLast _ _ => some .wrLast
  | .wrPeriod _ _ => some .wrPeriod
  | .wrCheck _ _ => some .wrCheck
  | .wrColor _ _ => some .wrColor
  | .wrPulse _ _ => some .wrPulse
  | .evTick => some .evTick
  | .evPeriod => some .evPeriod
  | .evComplete => some .evComplete
  | .busError _ => none

/-- The descriptor of an instruction matches its row. -/
theorem rowMatches_rowOf {i : Instr} {r : Row} (hr : rowOf i = some r) :
    rowMatches (encode i).descriptor r = true := by
  rw [rowMatches_iff, encode_descriptor_toNat]
  cases i with
  | rdLast i | rdPeriod i | rdCheck i | wrLast i | wrPeriod i | wrCheck i =>
    cases hr
    dsimp only
    omega
  | rdColor k | wrColor k | rdPulse k | wrPulse k =>
    cases hr
    have hk := k.isLt
    dsimp only
    omega
  | busError => cases hr
  | _ =>
    cases hr
    rfl

/-- The index fields of a descriptor that an indexed instruction wrote (R74). -/
theorem channelOf_eq {d : Word} {i : Channel} (h : d.toNat / 16 % 16 = i.val + 2) : channelOf d = i :=
  Fin.ext (by rw [channelOf_val]; omega)

theorem colorIxOf_eq {d : Word} {k : ColorIx} (h : d.toNat / 4 % 2 ^ 12 = k.toNat) : colorIxOf d = k :=
  BitVec.eq_of_toNat_eq ((colorIxOf_toNat d).trans h)

theorem pulseIxOf_eq {d : Word} {j : PulseIx} (h : d.toNat / 4 % 2 ^ 13 = j.toNat) : pulseIxOf d = j :=
  BitVec.eq_of_toNat_eq ((pulseIxOf_toNat d).trans h)

/-- The operands of an instruction come out of the words that spell it. -/
theorem rowInstr_rowOf {c : Config} {op : Operation} {i : Instr} {r : Row} (hr : rowOf i = some r)
    (h : Spells c op i) : rowInstr op r = i := by
  obtain ⟨-, hdesc, hdata⟩ := h
  have hnum := encode_descriptor_toNat i
  rw [hdesc] at hnum
  cases i with
  | rdLast i | rdPeriod i | rdCheck i =>
    cases hr
    dsimp only at hnum
    have hix : channelOf op.descriptor = i := channelOf_eq (by omega)
    simp only [rowInstr, hix]
  | wrLast i v | wrPeriod i v | wrCheck i v =>
    cases hr
    dsimp only at hnum
    have hix : channelOf op.descriptor = i := channelOf_eq (by omega)
    simp only [rowInstr, hix, hdata v rfl]
  | rdColor k =>
    cases hr
    have hk := k.isLt
    dsimp only at hnum
    exact congrArg Instr.rdColor (colorIxOf_eq (by omega))
  | wrColor k v =>
    cases hr
    have hk := k.isLt
    dsimp only at hnum
    exact congrArg₂ Instr.wrColor (colorIxOf_eq (by omega)) (hdata v rfl).symm
  | rdPulse j =>
    cases hr
    have hj := j.isLt
    dsimp only at hnum
    exact congrArg Instr.rdPulse (pulseIxOf_eq (by omega))
  | wrPulse j v =>
    cases hr
    have hj := j.isLt
    dsimp only at hnum
    exact congrArg₂ Instr.wrPulse (pulseIxOf_eq (by omega)) (hdata v rfl).symm
  | wrCtrl v | wrStatus v | wrFrameLen v | wrTick v | wrCfg0 v | wrCfg1 v | wrCfg2 v | wrXfer v =>
    cases hr
    rw [hdata v rfl]
    rfl
  | busError => cases hr
  | _ =>
    cases hr
    rfl

/-- The condition of an instruction's row is its index bound. -/
theorem rowCond_rowOf {c : Config} {op : Operation} {i : Instr} {r : Row} (hr : rowOf i = some r)
    (h : Spells c op i) : rowCond c op.descriptor r = true := by
  have hi := rowInstr_rowOf hr h
  obtain ⟨hwf, hdesc, -⟩ := h
  have hnum := encode_descriptor_toNat i
  rw [hdesc] at hnum
  cases i with
  | rdLast i | rdPeriod i | rdCheck i | wrLast i | wrPeriod i | wrCheck i =>
    cases hr
    have hbound := of_decide_eq_true hwf
    dsimp only at hnum
    exact (channelCond_iff c _).2 (by omega)
  | busError => cases hr
  | _ =>
    cases hr
    rw [← hi] at hwf
    exact hwf

/-- The decoder answers an instruction of the table for every operation that spells it. -/
theorem Spells.decode_eq {c : Config} {op : Operation} {i : Instr} {r : Row} (h : Spells c op i)
    (hr : rowOf i = some r) : decode c op = .operation i := by
  have hcond := rowCond_rowOf hr h
  have hi := rowInstr_rowOf hr h
  obtain ⟨-, hdesc, -⟩ := h
  have hmatch := rowMatches_rowOf hr
  rw [hdesc] at hmatch
  rw [decode_of_row hmatch hcond, hi]

/-- An instruction without a row is a bus error. -/
theorem rowOf_eq_none_iff {i : Instr} : rowOf i = none ↔ ∃ d, i = .busError d := by
  cases i <;> simp [rowOf]

/-- The decoder answers `i` exactly for the operations that spell it (R74 to R76). -/
theorem decode_eq_operation_iff {c : Config} (hc : c.Valid) (op : Operation) (i : Instr) :
    decode c op = .operation i ↔ Spells c op i := by
  constructor
  · intro h
    rcases decode_operation_cases h with rfl | ⟨r, hmatch, hcond, rfl⟩
    · exact ⟨((decode_eq_busError_iff hc op _).1 h).2, rfl, nofun⟩
    · exact spells_rowInstr hmatch hcond
  · intro h
    cases hr : rowOf i with
    | some r => exact h.decode_eq hr
    | none =>
      obtain ⟨d, rfl⟩ := rowOf_eq_none_iff.1 hr
      obtain ⟨hwf, hdesc, -⟩ := h
      exact (decode_eq_busError_iff hc op d).2 ⟨hdesc.symm, hdesc ▸ hwf⟩

/-- Settles O2: the encoder's words spell the instruction. -/
theorem encodeThenDecodeIsIdentity : Obligations.EncodeThenDecodeIsIdentity := fun _ i hc hwf =>
  (decode_eq_operation_iff hc (encode i) i).2 ⟨hwf, rfl, fun _ hv => (Machine.encode_data_of_write hv).symm⟩

/-- Settles O3: what the decoder answers is spelled by the words it was given. -/
theorem decodeKeepsEveryBit : Obligations.DecodeKeepsEveryBit := fun _ op i hc h =>
  (decode_eq_operation_iff hc op i).1 h

/-! ### The table's examples (R76, R77, R80) -/

/-- Settles O6: two rows of one descriptor are the same, or an exact row and a channel row, whose masks differ; and the
two examples spell their exact rows. -/
theorem mostSpecificRowIsUnique : Obligations.MostSpecificRowIsUnique := by
  refine ⟨fun d r r' => row_eq_of_maskBits_eq, fun d r r' h h' => ?_, fun d r r' h h' hexact hne => ?_,
    fun d r => offset_bits_of_rowMatches, fun c v => ⟨?_, ?_⟩⟩
  · obtain ⟨hchannel, hcolor, hpulse⟩ := offset_bits_of_rowMatches h
    obtain ⟨-, hcolor', hpulse'⟩ := offset_bits_of_rowMatches h'
    refine ⟨fun ⟨hr, hr'⟩ => ?_, fun ⟨hr, hr'⟩ => ?_, fun ⟨hr, hr'⟩ => ?_⟩
    · have hofs := hchannel hr
      have hofs' := hcolor' hr'
      omega
    · have hofs := hchannel hr
      have hofs' := hpulse' hr'
      omega
    · have hofs := hcolor hr
      have hofs' := hpulse' hr'
      omega
  · rcases rows_of_one_descriptor h h' with heq | hr | ⟨-, hchannel, -⟩
    · exact absurd heq hne
    · obtain ⟨-, hchannel, hlow⟩ := id hr
      exact ⟨hchannel, maskBits_lt_of_shadows hr, hlow⟩
    · exact absurd (hexact.symm.trans hchannel) (by decide)
  · exact Spells.decode_eq (i := .rdCtrl) ⟨rfl, rfl, nofun⟩ rfl
  · exact Spells.decode_eq (i := .rdCfg0) ⟨rfl, rfl, nofun⟩ rfl

theorem decode_of_kind_three (c : Config) (op : Operation) (hkind : op.descriptor.toNat / 2 ^ 30 = 3) :
    decode c op = .invalid .kindNone := by
  rw [decode_by_fields, if_pos hkind]

/-- Settles O1: each of the nine descriptors spells its instruction, or has the KIND of none. -/
theorem opcodeTableWordsDecode : Obligations.OpcodeTableWordsDecode := by
  intro c v hc
  obtain ⟨hleds, -, htasks, -⟩ := id hc
  have hpulse : 0 < c.pulseCap := Nat.succ_pos _
  simp only [decode_eq_operation_iff hc]
  exact ⟨⟨rfl, rfl, nofun⟩, ⟨rfl, rfl, nofun⟩, ⟨decide_eq_true htasks, rfl, nofun⟩,
    ⟨decide_eq_true hleds, rfl, fun _ => (Option.some.inj · |>.symm)⟩, ⟨decide_eq_true hpulse, rfl, nofun⟩,
    ⟨rfl, rfl, fun _ => (Option.some.inj · |>.symm)⟩, ⟨rfl, rfl, nofun⟩, ⟨rfl, rfl, nofun⟩,
    decode_of_kind_three c ⟨0xC0000000, v⟩ (by dsimp only; decide)⟩

/-! ### INVALID (R76, R78) -/

/-- Settles O4: a branch of the decoder that ends in INVALID is taken under one of the four cases, and a branch that
ends in an operation under none of them. -/
theorem invalidExactlyWhereNothingIsSpelled : Obligations.InvalidExactlyWhereNothingIsSpelled := by
  intro c op
  have hlt := op.descriptor.isLt
  rw [decode_by_fields]
  split_ifs
  all_goals
    simp only [Verdict.invalid.injEq, exists_eq', true_iff, exists_false, false_iff]
    omega

end Sys2Proof

namespace Sys2Proof.Machine

open Sys2Proof.Safety

/-! ### A START after BUSY was read as 0 (30_encoding.md R83) -/

/-- With the output off and no completion pending an internal event counts a tick or does nothing. -/
theorem exec_event_of_stopped {i : Instr} {s t : State} (hi : isEvent i = true) (hout : s.outEn = false)
    (htc : s.tcPend = false) (h : exec i s = .next t) :
    t = setTick (s.tick + BitVec.ofNat 32 ([i].count .evTick)) s := by
  cases i with
  | evTick => exact (Host.Outcome.next.inj h).symm
  | evPeriod =>
    rcases execEvPeriod_cases s with ⟨-, hkept⟩ | ⟨hrun, -⟩ | ⟨hrun, -⟩
    · cases hkept.symm.trans h
      simp [setTick]
    · exact absurd (hout.symm.trans hrun) nofun
    · exact absurd (hout.symm.trans hrun) nofun
  | evComplete =>
    rcases execEvComplete_cases s with ⟨-, hkept⟩ | ⟨hpend, -⟩
    · cases hkept.symm.trans h
      simp [setTick]
    · exact absurd (htc.symm.trans hpend) nofun
  | _ => cases hi

/-- With the output off and no completion pending internal events only count the ticks (70_reset_and_hazards.md
R213). -/
theorem execAll_events_of_stopped {ops : List Instr} {s t : State} (hops : ∀ op ∈ ops, isEvent op = true)
    (hout : s.outEn = false) (htc : s.tcPend = false) (h : execAll ops s = .next t) :
    t = setTick (s.tick + BitVec.ofNat 32 (ops.count .evTick)) s := by
  induction ops generalizing s with
  | nil =>
    cases h
    simp [setTick]
  | cons op ops ih =>
    obtain ⟨hop, hops⟩ := List.forall_mem_cons.1 hops
    obtain ⟨u, hu, h⟩ := execAll_cons.1 h
    have hone := exec_event_of_stopped hop hout htc hu
    have hrest := ih hops (by rw [hone]; exact hout) (by rw [hone]; exact htc) h
    have hcount : (op :: ops).count .evTick = [op].count .evTick + ops.count .evTick :=
      List.count_append (l₁ := [op])
    rw [hrest, hone, hcount, BitVec.ofNat_add]
    simp [setTick, BitVec.add_assoc]

/-- A START that finds the block idle and the frame short enough is accepted (41_transmitter.md R122). -/
theorem startFrame_of_accepted {s : State} (hb : s.busy = false) (hl : s.frameLen.toNat ≤ s.cfg.nLeds) :
    startFrame s = acceptStart s := by
  rcases startFrame_cases s with ⟨hbusy, -⟩ | ⟨-, hlong, -⟩ | ⟨-, -, h⟩
  · exact absurd (hb.symm.trans hbusy) nofun
  · exact absurd hl hlong.not_ge
  · exact h

/-- A command with START that finds the block idle and the frame short enough sets BUSY, and leaves ERR_BUSY as
ERR_CLR left it (R121, R123, R126). -/
theorem command_of_accepted {v : Word} {s : State} (hv : startBit v = true) (hb : s.busy = false)
    (hl : s.frameLen.toNat ≤ s.cfg.nLeds) :
    (command v s).busy = true ∧ (command v s).errBusy = (s.errBusy && !errClrBit v) := by
  have haccept : startFrame (if errClrBit v then clearErrors s else s) =
      acceptStart (if errClrBit v then clearErrors s else s) :=
    startFrame_of_accepted (by cases errClrBit v <;> exact hb) (by cases errClrBit v <;> exact hl)
  rw [command_eq, if_pos hv, haccept]
  refine ⟨rfl, ?_⟩
  cases errClrBit v
  · exact (Bool.and_true _).symm
  · exact (Bool.and_false _).symm

/-- Settles O33: the events leave BUSY and FRAME_LEN, so the START is accepted. -/
theorem startAfterIdleReadIsNotRefusedBusy : Obligations.StartAfterIdleReadIsNotRefusedBusy := by
  intro s t ops v hs hb hops h hv hl
  obtain ⟨-, -, hidle, -⟩ := hs
  obtain ⟨hout, htc, -⟩ := hidle hb
  cases execAll_events_of_stopped hops hout htc h
  exact ⟨_, rfl, command_of_accepted hv hb hl⟩

end Sys2Proof.Machine

/-! PROOFS. The family 40_encoder.md: what the accesses to COLOR, PULSE and FRAME_LEN do (R105 to R109), the frame that
an accepted START encodes (R102, R103, R111, and with R123 what else it writes), that its entries give the colours back
(R104), and the host function pack (R101). -/

namespace Sys2Proof.Machine

open Sys2Proof.Safety

/-! ### The words and the bus errors of the accesses (40_encoder.md R105 to R109) -/

/-- The words of a read, from the number of its descriptor. -/
theorem encode_read_eq {i : Instr} {n : Nat} (hr : isRead i = true) (hn : (encode i).descriptor.toNat = n) :
    encode i = ⟨BitVec.ofNat 32 n, 0⟩ := by
  have hdata : (encode i).data = 0 := by cases i <;> cases hr <;> rfl
  rw [← descriptor_eq_ofNat i n hn, ← hdata]

/-- An access to an index that does not exist, with the number of its descriptor. -/
theorem exec_of_not_wf_eq {i : Instr} {s : State} {n : Nat} (hw : i.wf s.cfg = false)
    (hn : (encode i).descriptor.toNat = n) : exec i s = .next (errored s (BitVec.ofNat 32 n)) := by
  rw [exec_of_not_wf hw, descriptor_eq_ofNat i n hn]

/-- Settles O14: the write's effect is `writeColor`, which leaves every other colour. -/
theorem writeColorStoresTheLow24Bits : Obligations.WriteColorStoresTheLow24Bits := by
  intro s k v
  refine ⟨encode_write_eq rfl (encode_descriptor_toNat _), fun hlen hk => ?_,
    fun hk => exec_of_not_wf_eq (decide_eq_false hk.not_gt) (encode_descriptor_toNat _)⟩
  refine ⟨_, exec_write (v := v) rfl (decide_eq_true hk), ?_, fun k' hk' => ?_, List.length_set, rfl⟩
  · rw [← colorOfData_toNat]
    exact congrArg BitVec.toNat (readColor_writeColor_same k.toNat _ s (hlen ▸ hk))
  · exact readColor_writeColor_other k.toNat k' _ s hk'

/-- Settles O17: any value is stored, and the longest strip fits in 16 bits. -/
theorem frameLengthIsStoredAndRead : Obligations.FrameLengthIsStoredAndRead := by
  refine ⟨fun s v => ⟨rfl, _, rfl, frameLenBits_toNat v, rfl⟩,
    fun s => ⟨rfl, ⟨_, zextHalf_toNat s.frameLen, rfl⟩, fun c n hc => ?_⟩⟩
  obtain ⟨-, hmax, -⟩ := hc
  exact Nat.mod_eq_of_lt (show c.nLeds < 2 ^ 16 by omega)

/-! ### Words that nothing has written since reset (10_state.md R23, R24) -/

/-- A property that the operations of `ops` keep is kept by the run of them. -/
theorem execAll_keeps_of {ops : List Instr} {P : State → Prop}
    (hP : ∀ i ∈ ops, ∀ s t, P s → ExecCase i s t → P t) {s u : State} (hs : P s) (h : execAll ops s = .next u) :
    P u := by
  induction ops generalizing s with
  | nil =>
    cases h
    exact hs
  | cons i is ih =>
    obtain ⟨hi, his⟩ := List.forall_mem_cons.1 hP
    obtain ⟨t, ht, h⟩ := execAll_cons.1 h
    exact ih his (hi s t hs (exec_cases ht)) h

/-- A colour word is changed by its own write only. -/
theorem ExecCase.readColor_eq {i : Instr} {s t : State} {k : ColorIx} (h : ExecCase i s t)
    (hi : ∀ v, i ≠ .wrColor k v) : readColor t k.toNat = readColor s k.toNat := by
  cases h with
  | color k' v hk' =>
    have hne : k.toNat ≠ k'.toNat := fun heq => hi v (BitVec.eq_of_toNat_eq heq ▸ hk')
    exact readColor_writeColor_other k'.toNat k.toNat _ s hne
  | ctrl v =>
    obtain ⟨hcolor, -⟩ := command_frame v s
    exact congrArg (·.getD k.toNat 0) hcolor
  | period _ _ ht => cases ht <;> rfl
  | _ => rfl

/-- PULSE is changed by a CTRL write only. -/
theorem ExecCase.pulse_eq {i : Instr} {s t : State} (h : ExecCase i s t) (hi : ∀ v, i ≠ .wrCtrl v) :
    t.pulse = s.pulse := by
  obtain ⟨-, -, hpulse, -⟩ := ownFields_writers h
  by_contra hne
  obtain ⟨v, hv⟩ := hpulse (.inl hne)
  exact hi v hv

/-- Settles O15: the read is zero-extended, and a run without a write of the word leaves it at its draw. -/
theorem readColorReturnsTheWord : Obligations.ReadColorReturnsTheWord := by
  intro s k
  refine ⟨encode_read_eq rfl (encode_descriptor_toNat _),
    fun hk => ⟨_, zextColor_toNat _, exec_read rfl nofun (decide_eq_true hk)⟩,
    fun hk => exec_of_not_wf_eq (decide_eq_false hk.not_gt) (encode_descriptor_toNat _),
    fun c n ops u hk hops h => ?_⟩
  exact execAll_keeps_of (P := fun s => readColor s k.toNat = Config.drawColor n k.toNat)
    (fun i hi _ _ hs hc => (hc.readColor_eq (hops i hi)).trans hs) (readColor_resetWith c n k.toNat hk) h

/-- Settles O16: the read is zero-extended, and a run without a CTRL write leaves PULSE at its draws. -/
theorem readPulseReturnsTheEntry : Obligations.ReadPulseReturnsTheEntry := by
  intro s j
  refine ⟨encode_read_eq rfl (encode_descriptor_toNat _),
    fun hj => ⟨_, zextHalf_toNat _, exec_read rfl nofun (decide_eq_true hj)⟩,
    fun hj => exec_of_not_wf_eq (decide_eq_false hj.not_gt) (encode_descriptor_toNat _),
    fun c n ops u hj hops h => ?_⟩
  have hpulse : u.pulse = (State.resetWith c n).pulse :=
    execAll_keeps_of (P := fun s => s.pulse = (State.resetWith c n).pulse)
      (fun i hi _ _ hs hc => (hc.pulse_eq (hops i hi)).trans hs) rfl h
  rw [readPulse, hpulse]
  exact readPulse_resetWith c n j.toNat hj

/-! ### What an accepted START leaves (40_encoder.md R102, R103, 41_transmitter.md R123) -/

/-- `s` after a CTRL write of `v` whose START is accepted: ERR_CLR has acted, and the frame is encoded and armed. -/
def started (v : Word) (s : State) : State :=
  completeWrite (acceptStart
    { s with errBusy := s.errBusy && !v.getLsbD 1, errLen := s.errLen && !v.getLsbD 1 })

/-- ERR_CLR clears both sticky bits, and without it they stay (R126). -/
theorem errClr_eq (v : Word) (s : State) :
    (if errClrBit v then clearErrors s else s) =
      { s with errBusy := s.errBusy && !v.getLsbD 1, errLen := s.errLen && !v.getLsbD 1 } := by
  rw [errClrBit]
  cases v.getLsbD 1 <;> simp [clearErrors]

/-- A START that finds the block idle and the frame short enough is accepted (R122). -/
theorem exec_wrCtrl_of_accepted {v : Word} {s : State} (hv : v.getLsbD 0 = true) (hb : s.busy = false)
    (hl : s.frameLen.toNat ≤ s.cfg.nLeds) : exec (.wrCtrl v) s = .next (started v s) := by
  have haccept := startFrame_of_accepted
    (s := { s with errBusy := s.errBusy && !v.getLsbD 1, errLen := s.errLen && !v.getLsbD 1 }) hb hl
  rw [exec_write (i := .wrCtrl v) rfl rfl, writeEffect, command_eq, errClr_eq, if_pos (show startBit v = true from hv),
    haccept, started]

theorem started_pulseLen (v : Word) (s : State) :
    (started v s).pulseLen = BitVec.ofNat 16 (24 * s.frameLen.toNat + 1) := rfl

/-- An entry of the frame is long for a 1 and short for a 0 of its colour bit, most significant bit first (R103). -/
theorem readPulse_started_bit {v : Word} {s : State} {p : Nat} (hp : p < 24 * s.frameLen.toNat) :
    readPulse (started v s) p = dutyOf s.cfg ((readColor s (p / 24)).getLsbD (23 - p % 24)) :=
  readPulse_encodeFrame_bit s s.frameLen.toNat p hp

theorem readPulse_started_terminator (v : Word) (s : State) : readPulse (started v s) (24 * s.frameLen.toNat) = 0 :=
  readPulse_encodeFrame_terminator s s.frameLen.toNat

theorem readPulse_started_above (v : Word) {s : State} {p : Nat} (hp : 24 * s.frameLen.toNat < p) :
    readPulse (started v s) p = readPulse s p :=
  readPulse_encodeFrame_above s s.frameLen.toNat p hp

/-- Settles O18: the state is `started v s`; its entries are the encoder's, and an idle block has CMP = 0. -/
theorem acceptedStartEncodesAndArms : Obligations.AcceptedStartEncodesAndArms := by
  intro s v hs hv hb hl
  obtain ⟨⟨-, hmax, -⟩, hram, hidle, -⟩ := hs
  obtain ⟨-, -, hcmp⟩ := hidle hb
  have hlen : (started v s).pulse.length = s.pulse.length := by
    obtain ⟨-, hlen', -⟩ := encodeFrame_keeps_ramWf s.frameLen.toNat s hram hl
    obtain ⟨-, hlen, -⟩ := hram
    exact hlen'.trans hlen.symm
  exact ⟨started v s, exec_wrCtrl_of_accepted hv hb hl, acceptStart_pulseLen hmax hl,
    fun p hp => readPulse_started_bit hp, readPulse_started_terminator v s,
    fun p hp => readPulse_started_above v hp, hlen, rfl, rfl, rfl, rfl, hcmp, rfl, rfl, rfl, rfl, rfl, rfl, rfl,
    rfl, rfl⟩

/-! ### The entries give the colours back (40_encoder.md R104) -/

/-- The low `n` bits of a number, most significant first, sum to it modulo `2 ^ n`. -/
theorem sum_bits_msb_first (x n : Nat) :
    ((List.range n).map fun b => (x.testBit (n - 1 - b)).toNat * 2 ^ (n - 1 - b)).sum = x % 2 ^ n := by
  induction n with
  | zero => simp [Nat.mod_one]
  | succ n ih =>
    have htail (b : Nat) : n + 1 - 1 - b.succ = n - 1 - b := by omega
    rw [List.range_succ_eq_map, List.map_cons, List.sum_cons, List.map_map, Nat.mod_pow_succ, ← Nat.toNat_testBit, ← ih]
    simp only [Function.comp_def, htail]
    rw [Nat.add_sub_cancel, Nat.sub_zero, Nat.mul_comm, Nat.add_comm]

/-- `bit(h)` reads a bit back from its duty, as the two duties differ (00_scope.md R6). -/
theorem bitOf_dutyOf {c : Config} (hc : c.Valid) (bit : Bool) : bitOf c (dutyOf c bit) = bit.toNat := by
  obtain ⟨-, -, -, -, -, hlt, -⟩ := hc
  have hne : c.dutyShort ≠ c.dutyLong := fun h => by simp [h] at hlt
  cases bit <;> simp [bitOf, dutyOf, hne]

/-- The 24 entries of LED `n` of an encoded frame sum to its colour. -/
theorem decodedColor_started {v : Word} {s : State} {n : Nat} (hc : s.cfg.Valid) (hn : n < s.frameLen.toNat) :
    decodedColor (started v s) n = (readColor s n).toNat := by
  have hentry (b : Nat) (hb : b ∈ List.range 24) :
      bitOf s.cfg (readPulse (started v s) (24 * n + b)) * 2 ^ (23 - b) =
        ((readColor s n).toNat.testBit (24 - 1 - b)).toNat * 2 ^ (24 - 1 - b) := by
    rw [List.mem_range] at hb
    rw [readPulse_started_bit (by omega), bitOf_dutyOf hc, show (24 * n + b) / 24 = n by omega,
      show (24 * n + b) % 24 = b by omega]
    rfl
  calc decodedColor (started v s) n
      = ((List.range 24).map fun b => ((readColor s n).toNat.testBit (24 - 1 - b)).toNat * 2 ^ (24 - 1 - b)).sum :=
        congrArg List.sum (List.map_congr_left hentry)
    _ = (readColor s n).toNat % 2 ^ 24 := sum_bits_msb_first _ 24
    _ = (readColor s n).toNat := Nat.mod_eq_of_lt (readColor s n).isLt

/-- Settles O19: each colour is the sum of its bits, and both duties are above 0. -/
theorem pulseEntriesDecodeToTheColors : Obligations.PulseEntriesDecodeToTheColors := by
  intro s t v hs hv hb hl h
  obtain ⟨hc, -⟩ := hs
  obtain ⟨-, -, -, -, hpos, hlt, -⟩ := id hc
  cases (exec_wrCtrl_of_accepted hv hb hl).symm.trans h
  refine ⟨fun n hn => decodedColor_started hc hn, ?_⟩
  rw [readPulse_started_terminator]
  exact ⟨fun hzero => by simp [← hzero] at hpos, fun hzero => by simp [← hzero] at hlt⟩

/-! ### A frame of no LEDs (40_encoder.md R111) -/

/-- A period with an entry left copies it and puts it on the line (41_transmitter.md R127). -/
theorem exec_evPeriod_of_left {s : State} (hout : s.outEn = true) (hleft : s.idx.toNat < s.pulseLen.toNat) :
    exec .evPeriod s = .next (appendPeriod (copyEntry s)) := by
  rcases execEvPeriod_cases s with ⟨hstop, -⟩ | ⟨-, -, h⟩ | ⟨-, hnone, -⟩
  · exact absurd (hstop.symm.trans hout) nofun
  · exact h
  · exact absurd hleft hnone.not_gt

/-- Settles O20: PULSE_LEN is 1, so the first period copies the terminator and pends completion. -/
theorem zeroLedFrameIsTheTerminatorAlone : Obligations.ZeroLedFrameIsTheTerminatorAlone := by
  intro s v _ hv hb hzero
  have hnone : s.frameLen.toNat = 0 := congrArg BitVec.toNat hzero
  have hlen : (started v s).pulseLen = 1 := by
    rw [started_pulseLen, hnone]
    rfl
  have hterm : readPulse (started v s) 0 = 0 := by simpa [hnone] using readPulse_started_terminator v s
  have hidx : (started v s).idx = 0 := rfl
  refine ⟨started v s, _, exec_wrCtrl_of_accepted hv hb (hnone ▸ Nat.zero_le _), hlen, hterm,
    fun p hp => readPulse_started_above v (by omega), exec_evPeriod_of_left rfl (by rw [hlen, hidx]; decide), ?_, ?_⟩
  · exact congrArg (s.line ++ [·]) hterm
  · simp [hidx, hlen]

/-! ### The host function pack (40_encoder.md R101) -/

/-- Settles O21: each channel value is cut to its byte, and the bytes stand side by side. -/
theorem packMasksEachChannel : Obligations.PackMasksEachChannel := by
  refine ⟨fun a b c => ?_, by decide⟩
  rw [pack, append_toNat, append_toNat]
  simp only [BitVec.toNat_ofNat]
  omega

end Sys2Proof.Machine

/-! PROOFS. The family 41_transmitter.md: the cases of a CTRL write (R121 to R126), one period and its levels (R127,
R128), the completion and the span of BUSY (R129, R136), the words of STATUS, CTRL and XFER (R131 to R133), and a whole
frame on the line whatever operations fall between its periods (R137). -/

namespace Sys2Proof.Machine

open Sys2Proof.Safety

/-! ### A frame in flight (10_state.md R38, R44) -/

theorem outEn_of_busy {s : State} (hs : BlockInv s) (hb : s.busy = true) : s.outEn = true := by
  obtain ⟨-, -, -, hbusy, -⟩ := hs
  obtain ⟨hout, -⟩ := hbusy hb
  exact hout

theorem phase_eq_draining_iff {s : State} : phase s = .draining ↔ s.busy = true ∧ s.tcPend = true := by
  cases hb : s.busy
  · simp [phase_of_idle hb]
  · cases hp : s.tcPend
    · simp [phase_of_transmitting hb hp]
    · simp [phase_of_draining hb hp]

/-- With an entry left the count up of IDX does not wrap. -/
theorem idx_add_one_toNat {s : State} (hleft : s.idx.toNat < s.pulseLen.toNat) :
    (s.idx + 1).toNat = s.idx.toNat + 1 :=
  BitVec.toNat_add_of_lt (lt_of_le_of_lt (Nat.succ_le_of_lt hleft) s.pulseLen.isLt)

/-! ### The frame on the line (41_transmitter.md R127, R137) -/

/-- `n` periods after the START of a frame with these entries: PULSE still holds the frame, IDX counts the copies, and
`line` has been followed by the entries in order and, past the last one, by zeros. -/
structure Streaming (frame line : List Half) (n : Nat) (s : State) : Prop where
  inv : BlockInv s
  busy : s.busy = true
  pulseLen : s.pulseLen.toNat = frame.length
  entries : ∀ p, p < frame.length → readPulse s p = frame.getD p 0
  idx : s.idx.toNat = min n frame.length
  line : s.line = line ++ (List.range n).map (frame.getD · 0)

section
variable {frame line : List Half} {n : Nat} {s t : State}

/-- Completion pends exactly from the last entry on (10_state.md R44). -/
theorem Streaming.tcPend_iff (h : Streaming frame line n s) : s.tcPend = true ↔ frame.length ≤ n := by
  obtain ⟨-, -, -, hbusy, -⟩ := h.inv
  obtain ⟨-, -, -, -, -, hpend, -⟩ := hbusy h.busy
  rw [hpend, ← BitVec.toNat_inj, h.idx, h.pulseLen, min_eq_right_iff]

theorem Streaming.of_agrees (h : Streaming frame line n s) (ht : Agrees s t) : Streaming frame line n t where
  inv := ht.blockInv h.inv
  busy := ht.busy.trans h.busy
  pulseLen := ht.pulseLen ▸ h.pulseLen
  entries := by simpa only [readPulse, ht.pulse] using h.entries
  idx := ht.idx ▸ h.idx
  line := ht.line.trans h.line

/-- A period sends the next entry, or a zero once the frame is exhausted. -/
theorem Streaming.period (h : Streaming frame line n s) (ht : exec .evPeriod s = .next t) :
    Streaming frame line (n + 1) t := by
  have hinv := (exec_cases ht).blockInv h.inv
  have hline (c : Half) (hc : c = frame.getD n 0) :
      s.line ++ [c] = line ++ (List.range (n + 1)).map (frame.getD · 0) := by
    simp [h.line, hc, List.range_succ]
  have hidx := h.idx
  have hlen := h.pulseLen
  rcases execEvPeriod_cases s with ⟨hstop, -⟩ | ⟨-, hleft, hnext⟩ | ⟨-, hnone, hnext⟩
  · exact absurd (hstop.symm.trans (outEn_of_busy h.inv h.busy)) nofun
  · cases hnext.symm.trans ht
    have hn : n < frame.length := by omega
    have hsucc := idx_add_one_toNat hleft
    have hentry : readPulse s s.idx.toNat = frame.getD n 0 := by
      rw [hidx, min_eq_left hn.le]
      exact h.entries n hn
    exact ⟨hinv, h.busy, hlen, h.entries, by simp only [appendPeriod_idx, copyEntry_idx]; omega, hline _ hentry⟩
  · cases hnext.symm.trans ht
    have hcmp : s.cmp = frame.getD n 0 := by
      rw [cmp_eq_zero_of_exhausted h.inv h.busy (idx_eq_of_pulseLen_le h.inv h.busy hnone),
        List.getD_eq_default _ _ (by omega)]
    exact ⟨hinv, h.busy, hlen, h.entries, by simp only [appendPeriod_idx]; omega, hline _ hcmp⟩

/-- An operation other than a period leaves the frame as it is, and so does an EV_COMPLETE before the last entry. -/
theorem Streaming.other {i : Instr} (h : Streaming frame line n s) (hi : i ≠ .evPeriod)
    (hearly : i = .evComplete → n < frame.length) (ht : exec i s = .next t) : Streaming frame line n t := by
  cases (exec_cases ht).transmitterCase with
  | kept hagree => exact h.of_agrees hagree
  | started _ _ _ hu hidle => exact absurd (hidle.symm.trans (hu.busy.trans h.busy)) nofun
  | copied hperiod => exact absurd hperiod hi
  | drained hperiod => exact absurd hperiod hi
  | finished hcomplete hp => exact absurd (h.tcPend_iff.1 hp) (hearly hcomplete).not_ge

/-- An operation sends one entry if it is a period and none if it is not. -/
theorem Streaming.exec {i : Instr} (h : Streaming frame line n s) (hearly : i = .evComplete → n < frame.length)
    (ht : exec i s = .next t) : Streaming frame line (n + [i].count .evPeriod) t := by
  by_cases hi : i = .evPeriod
  · subst hi
    exact h.period ht
  · rw [List.count_singleton, if_neg (by simpa using hi)]
    exact h.other hi hearly ht

/-- Over a run without an EV_COMPLETE, or with too few periods to exhaust the frame, each period sends one entry. -/
theorem Streaming.execAll {ops : List Instr} (h : Streaming frame line n s)
    (hops : .evComplete ∉ ops ∨ n + ops.count .evPeriod < frame.length) (ht : execAll ops s = .next t) :
    Streaming frame line (n + ops.count .evPeriod) t := by
  induction ops generalizing n s with
  | nil =>
    cases ht
    exact h
  | cons op ops ih =>
    obtain ⟨u, hu, hrest⟩ := execAll_cons.1 ht
    have hcount : n + (op :: ops).count .evPeriod = n + [op].count .evPeriod + ops.count .evPeriod := by
      rw [Nat.add_assoc, ← List.count_append, List.singleton_append]
    rw [hcount] at hops ⊢
    refine ih (h.exec (fun hop => ?_) hu) (hops.imp_left fun hmem hin => hmem (List.mem_cons_of_mem _ hin)) hrest
    rcases hops with hmem | hfew
    · exact absurd (hop ▸ List.mem_cons_self) hmem
    · omega

theorem Streaming.phase_iff (h : Streaming frame line n s) : phase s = .draining ↔ frame.length ≤ n := by
  rw [phase_eq_draining_iff, and_iff_right h.busy, h.tcPend_iff]

end

/-- The entries sent in `n` periods, as a list cut to `n`. -/
theorem map_getD_range (frame : List Half) (n : Nat) :
    (List.range n).map (frame.getD · 0) = (frame ++ List.replicate n 0).take n := by
  refine List.ext_getElem (by simp) fun p hp _ => ?_
  rw [List.length_map, List.length_range] at hp
  rw [List.getElem_map, List.getElem_range, List.getElem_take, List.getElem_append]
  split
  · next hlt => exact List.getD_eq_getElem _ _ hlt
  · next hge => rw [List.getElem_replicate, List.getD_eq_default _ _ (not_lt.1 hge)]

/-- A run of two lists of operations is a run of the first and then of the second. -/
theorem execAll_append {as bs : List Instr} {s u : State} :
    execAll (as ++ bs) s = .next u ↔ ∃ t, execAll as s = .next t ∧ execAll bs t = .next u := by
  induction as generalizing s with
  | nil => simp [execAll]
  | cons a as ih =>
    simp only [List.cons_append, execAll_cons, ih]
    exact ⟨fun ⟨r, hr, t, ht, hu⟩ => ⟨t, ⟨r, hr, ht⟩, hu⟩, fun ⟨t, ⟨r, hr, ht⟩, hu⟩ => ⟨r, hr, t, ht, hu⟩⟩

theorem frameOf_length (s : State) (len : Nat) : (frameOf s len).length = 24 * len + 1 := by simp [frameOf]

/-- PULSE holds the encoded frame after an accepted START (40_encoder.md R103). -/
theorem readPulse_started {v : Word} {s : State} {p : Nat} (hp : p < 24 * s.frameLen.toNat + 1) :
    readPulse (started v s) p = (frameOf s s.frameLen.toNat).getD p 0 := by
  rw [List.getD_eq_getElem _ _ ((frameOf_length s _).symm ▸ hp)]
  simp only [frameOf, List.getElem_map, List.getElem_range]
  split
  · next hbit => exact readPulse_started_bit hbit
  · next hterm =>
    rw [show p = 24 * s.frameLen.toNat by omega]
    exact readPulse_started_terminator v s

/-- An accepted START begins the frame of the colours it found (41_transmitter.md R123). -/
theorem streaming_started {v : Word} {s : State} (hs : BlockInv s) (hv : v.getLsbD 0 = true) (hb : s.busy = false)
    (hl : s.frameLen.toNat ≤ s.cfg.nLeds) :
    Streaming (frameOf s s.frameLen.toNat) s.line 0 (started v s) := by
  obtain ⟨⟨-, hmax, -⟩, -⟩ := id hs
  exact {
    inv := (exec_cases (exec_wrCtrl_of_accepted hv hb hl)).blockInv hs
    busy := rfl
    pulseLen := (acceptStart_pulseLen hmax hl).trans (frameOf_length s _).symm
    entries := fun p hp => readPulse_started (frameOf_length s _ ▸ hp)
    idx := (Nat.zero_min _).symm
    line := (List.append_nil _).symm }

/-- An EV_COMPLETE that finds TC_PEND ends the frame (R129). -/
theorem exec_evComplete_of_pending {s : State} (hp : s.tcPend = true) :
    exec .evComplete s = .next (finishFrame s) := by
  rcases execEvComplete_cases s with ⟨hnone, -⟩ | ⟨-, h⟩
  · exact absurd (hnone.symm.trans hp) nofun
  · exact h

/-- A spurious EV_COMPLETE does nothing (R130). -/
theorem exec_evComplete_of_spurious {s : State} (hp : s.tcPend = false) : exec .evComplete s = .next s := by
  rcases execEvComplete_cases s with ⟨-, h⟩ | ⟨hpend, -⟩
  · exact h
  · exact absurd (hp.symm.trans hpend) nofun

/-- Settles O31: START begins the frame, the early operations are too few periods to exhaust it, and the late ones hold
no EV_COMPLETE. -/
theorem frameStreamsInOrderWhateverIntervenes : Obligations.FrameStreamsInOrderWhateverIntervenes := by
  intro s t u v early late hs hv hb hl hstart hearly hlate hrun
  cases (exec_wrCtrl_of_accepted hv hb hl).symm.trans hstart
  obtain ⟨r, hr, hu⟩ := execAll_append.1 hrun
  have hlen := frameOf_length s s.frameLen.toNat
  have hfirst := (streaming_started hs hv hb hl).execAll (.inr (by omega)) hr
  have hstream := hfirst.execAll (.inl fun hmem => hlate _ hmem rfl) hu
  rw [Nat.zero_add, ← List.count_append] at hstream
  rw [← hlen]
  refine ⟨hstream.line.trans ?_, hstream.idx, hstream.phase_iff, hstream.busy, fun hdone => ?_⟩
  · rw [map_getD_range]
  · exact ⟨_, exec_evComplete_of_pending (hstream.tcPend_iff.2 hdone), phase_of_idle rfl, rfl⟩

/-! ### The cases of a CTRL write (41_transmitter.md R121 to R126) -/

/-- `s` after the ERR_CLR bit of a CTRL write of `v` has acted (R126). -/
def errClred (v : Word) (s : State) : State :=
  { s with errBusy := s.errBusy && !v.getLsbD 1, errLen := s.errLen && !v.getLsbD 1 }

theorem command_of_no_start {v : Word} {s : State} (hv : v.getLsbD 0 = false) : command v s = errClred v s := by
  rw [command_eq, errClr_eq, startBit, hv]
  rfl

theorem command_of_start {v : Word} {s : State} (hv : v.getLsbD 0 = true) :
    command v s = startFrame (errClred v s) := by
  rw [command_eq, errClr_eq, startBit, hv]
  rfl

/-- A START that finds the block busy is refused (R124). -/
theorem startFrame_of_busy {s : State} (hb : s.busy = true) : startFrame s = flagBusy s := by
  rw [startFrame, if_pos hb]

/-- A START that finds the frame too long is refused (R125). -/
theorem startFrame_of_too_long {s : State} (hb : s.busy = false) (hl : s.cfg.nLeds < s.frameLen.toNat) :
    startFrame s = flagLen s := by
  rw [startFrame, if_neg (by simp [hb]), if_pos hl]

/-- A START clears no sticky bit. -/
theorem startFrame_keeps_errors (s : State) :
    (s.errBusy = true → (startFrame s).errBusy = true) ∧ (s.errLen = true → (startFrame s).errLen = true) := by
  rcases startFrame_cases s with ⟨-, h⟩ | ⟨-, -, h⟩ | ⟨-, -, h⟩ <;> rw [h]
  · exact ⟨fun _ => rfl, id⟩
  · exact ⟨id, fun _ => rfl⟩
  · exact ⟨id, id⟩

/-- Without ERR_CLR a command clears no sticky bit (R126). -/
theorem command_keeps_errors {v : Word} (hv : v.getLsbD 1 = false) (s : State) :
    (s.errBusy = true → (command v s).errBusy = true) ∧ (s.errLen = true → (command v s).errLen = true) := by
  have hsame : errClred v s = s := by simp only [errClred, hv, Bool.not_false, Bool.and_true]
  cases hstart : v.getLsbD 0
  · rw [command_of_no_start hstart, hsame]
    exact ⟨id, id⟩
  · rw [command_of_start hstart, hsame]
    exact startFrame_keeps_errors s

/-- Settles O22: one equation of the command per case; and a sticky bit's only writer clears it with ERR_CLR alone. -/
theorem ctrlWriteClearsThenStarts : Obligations.CtrlWriteClearsThenStarts := by
  refine ⟨fun s v => ⟨rfl, completeWrite (command v s), rfl, fun hv => ?_, fun hv hb => ?_, fun hv hb hl => ?_,
    fun hv hb hl => ?_⟩, fun i s t h hfell => ?_⟩
  · rw [command_of_no_start hv]
    rfl
  · rw [command_of_start hv, startFrame_of_busy (s := errClred v s) hb]
    rfl
  · rw [command_of_start hv, startFrame_of_too_long (s := errClred v s) hb hl]
    rfl
  · rw [command_of_start hv, startFrame_of_accepted (s := errClred v s) hb hl]
    rfl
  · obtain ⟨-, -, -, -, -, herr, -⟩ := ownFields_writers (exec_cases h)
    obtain ⟨v, rfl⟩ := herr (hfell.imp (fun ⟨hset, hclear⟩ => by simp [hset, hclear])
      (fun ⟨hset, hclear⟩ => by simp [hset, hclear]))
    refine ⟨v, rfl, ?_⟩
    by_contra hv
    obtain ⟨hbusy, hlen⟩ := command_keeps_errors (Bool.eq_false_iff.2 hv) s
    cases h
    rcases hfell with ⟨hset, hclear⟩ | ⟨hset, hclear⟩
    · exact absurd ((hbusy hset).symm.trans hclear) nofun
    · exact absurd ((hlen hset).symm.trans hclear) nofun

/-- An operation leaves one state. -/
theorem exec_unique {i : Instr} {s t u : State} (ht : exec i s = .next t) (hu : exec i s = .next u) : t = u :=
  Host.Outcome.next.inj (ht.symm.trans hu)

/-! ### One period (41_transmitter.md R127, R128) -/

/-- With the output off a period does nothing. -/
theorem exec_evPeriod_of_stopped {s : State} (hout : s.outEn = false) : exec .evPeriod s = .next s := by
  rcases execEvPeriod_cases s with ⟨-, h⟩ | ⟨hrun, -⟩ | ⟨hrun, -⟩
  · exact h
  · exact absurd (hout.symm.trans hrun) nofun
  · exact absurd (hout.symm.trans hrun) nofun

/-- With no entry left a period puts CMP on the line again. -/
theorem exec_evPeriod_of_none_left {s : State} (hout : s.outEn = true) (hnone : s.pulseLen.toNat ≤ s.idx.toNat) :
    exec .evPeriod s = .next (appendPeriod s) := by
  rcases execEvPeriod_cases s with ⟨hstop, -⟩ | ⟨-, hleft, -⟩ | ⟨-, -, h⟩
  · exact absurd (hstop.symm.trans hout) nofun
  · exact absurd hleft hnone.not_gt
  · exact h

/-- TC_PEND after a copy: as before, or set by the last entry. -/
theorem copyEntry_tcPend_eq {s : State} (hleft : s.idx.toNat < s.pulseLen.toNat) :
    (copyEntry s).tcPend = (s.tcPend || decide (s.idx.toNat + 1 = s.pulseLen.toNat)) := by
  have hlast : s.idx + 1 = s.pulseLen ↔ s.idx.toNat + 1 = s.pulseLen.toNat := by
    rw [← BitVec.toNat_inj, idx_add_one_toNat hleft]
  simp only [copyEntry_tcPend, hlast]
  cases s.tcPend <;> simp

/-- Settles O23: each clause is one case of the period, and a draining frame has CMP = 0. -/
theorem periodCopiesOneEntryToTheLine : Obligations.PeriodCopiesOneEntryToTheLine := by
  refine ⟨rfl, fun s => ?_⟩
  obtain ⟨t, ht, -⟩ := exec_next .evPeriod s
  refine ⟨t, ht, fun hout => exec_unique ht (exec_evPeriod_of_stopped hout), fun hout hleft => ?_,
    fun hout hnone => exec_unique ht (exec_evPeriod_of_none_left hout hnone), fun hs hphase => ?_⟩
  · rw [exec_unique ht (exec_evPeriod_of_left hout hleft)]
    exact ⟨idx_add_one_toNat hleft, copyEntry_tcPend_eq hleft, rfl⟩
  · obtain ⟨hb, hp⟩ := phase_eq_draining_iff.1 hphase
    have hx := idx_eq_of_tcPend hs hp
    rw [exec_unique ht (exec_evPeriod_of_none_left (outEn_of_busy hs hb) (hx ▸ le_rfl)), appendPeriod,
      cmp_eq_zero_of_exhausted hs hb hx]

/-- Settles O24: a recorded high time is below PWM_PERIOD. -/
theorem linePeriodsLastPwmPeriod : Obligations.LinePeriodsLastPwmPeriod := by
  intro s hs h hh
  obtain ⟨-, -, -, -, -, hline⟩ := hs
  have hlt := hline h hh
  simp only [periodLevels, List.length_append, List.length_replicate, List.count_append, List.count_replicate]
  exact ⟨by omega, by simp⟩

/-! ### BUSY from START to completion (41_transmitter.md R122, R129, R136) -/

/-- All that an operation can do to BUSY: keep it, set it with an accepted START, or clear it with the completion. -/
theorem ExecCase.busy_cases {i : Instr} {s t : State} (h : ExecCase i s t) :
    t.busy = s.busy ∨
      (∃ v, i = .wrCtrl v ∧ v.getLsbD 0 = true ∧ s.busy = false ∧ s.frameLen.toNat ≤ s.cfg.nLeds ∧ t.busy = true) ∨
      (i = .evComplete ∧ s.tcPend = true ∧ t.busy = false) := by
  cases h with
  | ctrl v hi =>
    obtain ⟨b, l, h | ⟨hv, hb, hl, h⟩⟩ := command_cases v s <;> rw [h]
    · exact .inl rfl
    · exact .inr (.inl ⟨v, hi, hv, hb, hl, rfl⟩)
  | period _ _ ht => cases ht <;> exact .inl rfl
  | complete hi hp => exact .inr (.inr ⟨hi, hp, rfl⟩)
  | _ => exact .inl rfl

/-- BUSY falls at a completion only (R129). -/
theorem complete_of_busy_falls {i : Instr} {s t : State} (h : exec i s = .next t) (hb : s.busy = true)
    (ht : t.busy = false) : i = .evComplete ∧ s.tcPend = true := by
  rcases (exec_cases h).busy_cases with hkept | ⟨-, -, -, hidle, -⟩ | ⟨hi, hp, -⟩
  · exact absurd ((hkept.trans hb).symm.trans ht) nofun
  · exact absurd (hidle.symm.trans hb) nofun
  · exact ⟨hi, hp⟩

/-- BUSY rises at an accepted START only (R122). -/
theorem start_of_busy_rises {i : Instr} {s t : State} (h : exec i s = .next t) (hb : s.busy = false)
    (ht : t.busy = true) :
    ∃ v, i = .wrCtrl v ∧ v.getLsbD 0 = true ∧ s.busy = false ∧ s.frameLen.toNat ≤ s.cfg.nLeds := by
  rcases (exec_cases h).busy_cases with hkept | ⟨v, hi, hv, -, hl, -⟩ | ⟨-, -, hidle⟩
  · exact absurd ((hkept.trans hb).symm.trans ht) nofun
  · exact ⟨v, hi, hv, hb, hl⟩
  · exact absurd (hidle.symm.trans ht) nofun

/-- Settles O25: the two cases of EV_COMPLETE; under the invariant a pending completion has found CMP = 0. -/
theorem completionEndsTheFrame : Obligations.CompletionEndsTheFrame := by
  refine ⟨rfl, fun s => ?_, fun i s t h hb ht => (complete_of_busy_falls h hb ht).1⟩
  obtain ⟨t, ht, -⟩ := exec_next .evComplete s
  refine ⟨t, ht, fun hp => exec_unique ht (exec_evComplete_of_spurious hp),
    fun hp => exec_unique ht (exec_evComplete_of_pending hp), fun hs hp => ?_⟩
  have hcmp := cmp_eq_zero_of_exhausted hs (busy_of_tcPend hs hp) (idx_eq_of_tcPend hs hp)
  rw [exec_unique ht (exec_evComplete_of_pending hp), finishFrame_cmp, hcmp]

/-- Settles O29: of the three things an operation can do to BUSY, START sets it and the completion clears it. -/
theorem busyHoldsFromStartToCompletion : Obligations.BusyHoldsFromStartToCompletion := by
  intro i s t hs h
  refine ⟨⟨fun ⟨hb, ht⟩ => start_of_busy_rises h hb ht, ?_⟩, ⟨fun ⟨hb, ht⟩ => complete_of_busy_falls h hb ht, ?_⟩⟩
  · rintro ⟨v, rfl, hv, hb, hl⟩
    cases (exec_wrCtrl_of_accepted hv hb hl).symm.trans h
    exact ⟨hb, rfl⟩
  · rintro ⟨rfl, hp⟩
    cases (exec_evComplete_of_pending hp).symm.trans h
    exact ⟨busy_of_tcPend hs hp, rfl⟩

/-! ### The reads of STATUS, CTRL and XFER (41_transmitter.md R131 to R133) -/

theorem statusWord_toNat (s : State) :
    (statusWord s).toNat =
      s.busy.toNat + 2 * s.tcPend.toNat + 4 * s.outEn.toNat + 8 * s.errBusy.toNat + 16 * s.errLen.toNat := by
  have hzero : (0 : BitVec 27).toNat = 0 := rfl
  simp only [statusWord, append_toNat, BitVec.toNat_ofBool, hzero]
  omega

/-- XFER as a number: PULSE_LEN above IDX. -/
theorem xferWord_toNat (s : State) : (xferWord s).toNat = s.pulseLen.toNat * 2 ^ 16 + s.idx.toNat :=
  concatHalves_toNat _ _

theorem xferWord_resetWith (c : Config) (n : Nat) : xferWord (State.resetWith c n) = 0 := by
  rw [xferWord, resetWith_pulseLen, resetWith_idx]
  decide

/-- Settles O26: the word is the sum of its bits, and the phase fixes the low three. -/
theorem statusReadShowsTheFiveBits : Obligations.StatusReadShowsTheFiveBits := by
  refine ⟨rfl, fun s => ⟨statusWord s, rfl, statusWord_toNat s, fun hs => ?_⟩⟩
  have hlow : (statusWord s).toNat % 8 = s.busy.toNat + 2 * s.tcPend.toNat + 4 * s.outEn.toNat := by
    have hbusy := s.busy.toNat_lt
    have htc := s.tcPend.toNat_lt
    have hout := s.outEn.toNat_lt
    rw [statusWord_toNat]
    omega
  rw [hlow]
  cases hb : s.busy
  · obtain ⟨-, -, hidle, -⟩ := hs
    obtain ⟨hout, hp, -⟩ := hidle hb
    rw [phase_of_idle hb, hout, hp]
    rfl
  · rw [outEn_of_busy hs hb]
    cases hp : s.tcPend
    · rw [phase_of_transmitting hb hp]
      rfl
    · rw [phase_of_draining hb hp]
      rfl

/-- Settles O27: an accepted START leaves IDX = 0, and a completion finds IDX at PULSE_LEN. -/
theorem ctrlAndXferReads : Obligations.CtrlAndXferReads := by
  refine ⟨rfl, rfl, fun s => ⟨rfl, _, xferWord_toNat s, rfl⟩, fun c n => ?_, fun s t v hs hv hb hl h => ?_,
    fun s t hs hp h => ?_⟩
  · rw [← xferWord_resetWith c n]
    rfl
  · obtain ⟨⟨-, hmax, -⟩, -⟩ := hs
    cases (exec_wrCtrl_of_accepted hv hb hl).symm.trans h
    refine ⟨_, (xferWord_toNat _).trans ?_, rfl⟩
    have hidx : (started v s).idx.toNat = 0 := rfl
    rw [show (started v s).pulseLen.toNat = _ from acceptStart_pulseLen hmax hl, hidx, Nat.add_zero]
  · cases (exec_evComplete_of_pending hp).symm.trans h
    refine ⟨_, (xferWord_toNat _).trans ?_, rfl⟩
    rw [finishFrame_pulseLen, finishFrame_idx, idx_eq_of_tcPend hs hp]

end Sys2Proof.Machine

/-! PROOFS. The family 42_tick_timestamp.md: what each operation does to TICK and LAST (R140, R153), the reads of a
timestamp channel (R141, R143, R145, R147), the elapsed time as a count of ticks (R149), and what follows for a late
check (R150) and for the corner cases of the period (R152). -/

namespace Sys2Proof.Machine

open Sys2Proof.Safety

/-! ### TICK and LAST under every operation (42_tick_timestamp.md R140, R153) -/

/-- No operation changes the configuration (00_scope.md R9). -/
theorem ExecCase.cfg_eq {i : Instr} {s t : State} (h : ExecCase i s t) : t.cfg = s.cfg := by
  cases h.transmitterCase with
  | kept ht => exact ht.cfg
  | started _ _ _ hu _ _ ht => exact ht.cfg.trans hu.cfg
  | _ => rfl

/-- TICK is changed by EV_TICK only. -/
theorem ExecCase.tick_eq {i : Instr} {s t : State} (h : ExecCase i s t) (hi : i ≠ .evTick) : t.tick = s.tick := by
  obtain ⟨-, -, -, -, -, -, htick, -⟩ := ownFields_writers h
  by_contra hne
  exact hi (htick hne)

/-- LAST is changed by a read of some CHECK only. -/
theorem ExecCase.last_eq {i : Instr} {s t : State} (h : ExecCase i s t) (hi : ∀ ch, i ≠ .rdCheck ch) :
    t.last = s.last := by
  obtain ⟨-, -, -, -, -, -, -, hlast⟩ := ownFields_writers h
  by_contra hne
  obtain ⟨ch, hch⟩ := hlast hne
  exact hi ch hch

/-- A timestamp is changed by a read of its own CHECK only. -/
theorem ExecCase.readLast_eq {i : Instr} {s t : State} {ch : Channel} (h : ExecCase i s t) (hi : i ≠ .rdCheck ch) :
    readLast t ch.val = readLast s ch.val := by
  cases h with
  | rearm ch' hch' =>
    have hne : ch.val ≠ ch'.val := fun heq => hi (Fin.ext heq ▸ hch')
    exact readLast_writeLast_other ch'.val ch.val _ s hne
  | ctrl v =>
    obtain ⟨-, -, -, -, -, hlast⟩ := command_frame v s
    exact congrArg (·.getD ch.val 0) hlast
  | period _ _ ht => cases ht <;> rfl
  | _ => rfl

/-- Each EV_TICK adds one to TICK, and nothing else does. -/
theorem tick_after {i : Instr} {s t : State} (h : exec i s = .next t) :
    t.tick = s.tick + BitVec.ofNat 32 ([i].count .evTick) := by
  by_cases hi : i = .evTick
  · subst hi
    cases h
    rfl
  · rw [(exec_cases h).tick_eq hi, List.count_singleton, if_neg (by simpa using hi)]
    exact (BitVec.add_zero _).symm

theorem execAll_cfg {ops : List Instr} {s t : State} (h : execAll ops s = .next t) : t.cfg = s.cfg :=
  execAll_keeps (fun u => u.cfg = s.cfg) (fun _ _ _ hs hc => hc.cfg_eq.trans hs) ops rfl h

/-- Settles O40: EV_TICK is the one writer of TICK, and a read of a CHECK the one writer of LAST. -/
theorem onlyTheTickEventMovesTime : Obligations.OnlyTheTickEventMovesTime := by
  intro i s t h
  refine ⟨?_, (exec_cases h).tick_eq, (exec_cases h).last_eq⟩
  rintro rfl
  cases h
  exact BitVec.toNat_add s.tick 1

/-- Settles O34: the event is `setTick` alone. -/
theorem tickEventAddsOne : Obligations.TickEventAddsOne :=
  ⟨rfl, fun s => ⟨setTick (s.tick + 1) s, rfl, BitVec.toNat_add s.tick 1, rfl⟩⟩

/-! ### The elapsed time (R147, R149) -/

/-- The unsigned difference of R147 as a number. -/
theorem elapsed_toNat (s : State) (i : Nat) :
    (elapsed s i).toNat = (s.tick.toNat + 2 ^ 32 - (readLast s i).toNat) % 2 ^ 32 := by
  have hlast := (readLast s i).isLt
  rw [elapsed, BitVec.toNat_sub]
  congr 1
  omega

/-- Without a read of its CHECK a channel's elapsed time grows by one with each tick. -/
theorem elapsed_after {ops : List Instr} {s t : State} {i : Channel} (hops : ∀ op ∈ ops, op ≠ .rdCheck i)
    (h : execAll ops s = .next t) :
    elapsed t i.val = elapsed s i.val + BitVec.ofNat 32 (ops.count .evTick) := by
  induction ops generalizing s with
  | nil =>
    cases h
    exact (BitVec.add_zero _).symm
  | cons op ops ih =>
    obtain ⟨hop, hops⟩ := List.forall_mem_cons.1 hops
    obtain ⟨u, hu, hrest⟩ := execAll_cons.1 h
    have hone : elapsed u i.val = elapsed s i.val + BitVec.ofNat 32 ([op].count .evTick) := by
      rw [elapsed, elapsed, tick_after hu, (exec_cases hu).readLast_eq hop]
      exact BitVec.add_sub_comm
    have hcount : (op :: ops).count .evTick = [op].count .evTick + ops.count .evTick :=
      List.count_append (l₁ := [op])
    rw [ih hops hrest, hone, hcount, BitVec.ofNat_add, BitVec.add_assoc]

/-- From `LAST = TICK` on the elapsed time is the number of ticks modulo `2 ^ 32`. -/
theorem elapsed_after_of_last_eq_tick {ops : List Instr} {s t : State} {i : Channel}
    (hops : ∀ op ∈ ops, op ≠ .rdCheck i) (h : execAll ops s = .next t) (hlast : readLast s i.val = s.tick) :
    (elapsed t i.val).toNat = ops.count .evTick % 2 ^ 32 := by
  rw [elapsed_after hops h, elapsed, hlast, BitVec.sub_self, BitVec.zero_add, BitVec.toNat_ofNat]

/-- Settles O37: each operation of the run adds its own ticks to the elapsed time. -/
theorem elapsedCountsTheTicks : Obligations.ElapsedCountsTheTicks :=
  fun _ _ _ _ hops h hlast => elapsed_after_of_last_eq_tick hops h hlast

/-! ### The check of a channel (R147) -/

/-- `s` after a check of channel `i` that fired: re-armed, with the answer 1. -/
abbrev rearmed (i : Channel) (s : State) : State := returnData 1 (writeLast i.val s.tick s)

section
variable {s : State} {i : Channel}

/-- A check that finds the period elapsed fires and re-arms. -/
theorem exec_rdCheck_of_due (hi : i.val < s.cfg.nTasks)
    (hdue : (taskPeriodOf s.cfg i.val).toNat ≤ (elapsed s i.val).toNat) :
    exec (.rdCheck i) s = .next (rearmed i s) := by
  refine congrArg _ ((onIndexed_of_present (decide_eq_true hi)).trans ?_)
  rcases checkChannel_cases i.val s with ⟨-, h⟩ | ⟨hnot, -⟩
  · exact h
  · exact absurd hdue (of_decide_eq_false hnot)

/-- A check that comes before the period has elapsed returns 0 and changes nothing. -/
theorem exec_rdCheck_of_not_due (hi : i.val < s.cfg.nTasks)
    (hearly : (elapsed s i.val).toNat < (taskPeriodOf s.cfg i.val).toNat) :
    exec (.rdCheck i) s = .next (answered s (.data 0)) := by
  refine congrArg _ ((onIndexed_of_present (decide_eq_true hi)).trans ?_)
  rcases checkChannel_cases i.val s with ⟨hfired, -⟩ | ⟨-, h⟩
  · exact absurd (of_decide_eq_true hfired) hearly.not_ge
  · exact h

/-- What a check answers, by the elapsed time. -/
theorem exec_rdCheck_answer (hi : i.val < s.cfg.nTasks) :
    ∃ t, exec (.rdCheck i) s = .next t ∧ t.responses = s.responses ++
      [.data (if (taskPeriodOf s.cfg i.val).toNat ≤ (elapsed s i.val).toNat then 1 else 0)] := by
  by_cases hdue : (taskPeriodOf s.cfg i.val).toNat ≤ (elapsed s i.val).toNat
  · exact ⟨_, exec_rdCheck_of_due hi hdue, by rw [if_pos hdue]; rfl⟩
  · exact ⟨_, exec_rdCheck_of_not_due hi (not_le.1 hdue), by rw [if_neg hdue]⟩

theorem readLast_rearmed (hlen : s.last.length = s.cfg.nTasks) (hi : i.val < s.cfg.nTasks) :
    readLast (rearmed i s) i.val = s.tick :=
  readLast_writeLast_same i.val s.tick s (hlen ▸ hi)

/-- The next check answers by the number of ticks since `LAST = TICK`, as long as that number has not wrapped. -/
theorem exec_rdCheck_answer_after {ops : List Instr} {t : State} (hi : i.val < s.cfg.nTasks)
    (hlast : readLast s i.val = s.tick) (hops : ∀ op ∈ ops, op ≠ .rdCheck i) (h : execAll ops s = .next t)
    (hcount : ops.count .evTick < 2 ^ 32) :
    ∃ u, exec (.rdCheck i) t = .next u ∧ u.responses = t.responses ++
      [.data (if (taskPeriodOf s.cfg i.val).toNat ≤ ops.count .evTick then 1 else 0)] := by
  have hticks := (elapsed_after_of_last_eq_tick hops h hlast).trans (Nat.mod_eq_of_lt hcount)
  rw [← hticks, ← execAll_cfg h]
  exact exec_rdCheck_answer (execAll_cfg h ▸ hi)

end

/-- Settles O38: two periods are at least one, and the check leaves LAST at TICK, from where the ticks count. -/
theorem lateCheckDoesNotCatchUp : Obligations.LateCheckDoesNotCatchUp := by
  intro s i hlen hi hlate
  have hlast := readLast_rearmed hlen hi
  exact ⟨rearmed i s, exec_rdCheck_of_due hi (by omega), rfl, hlast,
    fun _ _ hops h hcount => exec_rdCheck_answer_after (s := rearmed i s) hi hlast hops h hcount⟩

/-- Every timestamp is 0 after reset, as TICK is (10_state.md R34, R35). -/
theorem readLast_resetWith (c : Config) (n i : Nat) : readLast (State.resetWith c n) i = 0 := by
  rw [readLast, resetWith_last, List.getD, List.getElem?_replicate]
  split <;> rfl

/-- Settles O39: a period of 0 has always elapsed, one of `2 ^ 32 - 1` only at the largest elapsed time, which the next
tick wraps to 0, and reset leaves `LAST = TICK`. -/
theorem periodCornerCases : Obligations.PeriodCornerCases := by
  refine ⟨fun s i hlen hi hzero => ?_, fun s i hi hmax => ?_, fun c n i ops t hi hops h hcount => ?_⟩
  · exact ⟨rearmed i s, exec_rdCheck_of_due hi (by rw [hzero]; exact Nat.zero_le _), rfl, readLast_rearmed hlen hi⟩
  · have hlt := (elapsed s i.val).isLt
    have hdue : (elapsed s i.val).toNat = 2 ^ 32 - 1 ↔
        (taskPeriodOf s.cfg i.val).toNat ≤ (elapsed s i.val).toNat := by omega
    obtain ⟨t, ht, hanswer⟩ := exec_rdCheck_answer hi
    refine ⟨t, ht, by simpa only [hdue] using hanswer, fun hfull => ?_⟩
    have hwrap : (elapsed (setTick (s.tick + 1) s) i.val).toNat = 0 := by
      rw [show elapsed (setTick (s.tick + 1) s) i.val = elapsed s i.val + 1 from BitVec.add_sub_comm,
        BitVec.toNat_add, hfull]
      rfl
    refine ⟨setTick (s.tick + 1) s, rfl, exec_rdCheck_of_not_due hi ?_⟩
    rw [hwrap, setTick_cfg, hmax]
    decide
  · exact exec_rdCheck_answer_after (s := State.resetWith c n) hi (readLast_resetWith c n i.val) hops h hcount

/-- Settles O36: the two outcomes of the check; right after a firing the elapsed time is 0, below any period but 0. -/
theorem checkFiresAndRearms : Obligations.CheckFiresAndRearms := by
  intro s i
  refine ⟨encode_read_eq rfl (encode_descriptor_toNat _), fun hlen hi hdue => ?_, fun hi hearly => ?_,
    fun hi => exec_of_not_wf_eq (decide_eq_false hi.not_gt) (encode_descriptor_toNat _)⟩
  · rw [← elapsed_toNat] at hdue
    have hlast := readLast_rearmed hlen hi
    refine ⟨rearmed i s, exec_rdCheck_of_due hi hdue, hlast,
      fun i' hi' => readLast_writeLast_other i.val i' s.tick s hi', List.length_set, rfl, fun hpos => ?_⟩
    refine exec_rdCheck_of_not_due (s := rearmed i s) hi ?_
    rw [elapsed, hlast, returnData_tick, writeLast_tick, BitVec.sub_self]
    exact hpos
  · exact exec_rdCheck_of_not_due hi (elapsed_toNat s i.val ▸ hearly)

/-! ### The reads of TICK, LAST and PERIOD (R141, R143, R145) -/

/-- Settles O35: each read returns its value where the channel exists, and is its own bus error where it does not. -/
theorem timestampReads : Obligations.TimestampReads := by
  intro s
  refine ⟨rfl, exec_read (i := .rdTick) rfl nofun rfl, fun _ _ => rfl, fun i => ?_⟩
  refine ⟨encode_read_eq rfl (encode_descriptor_toNat _), encode_read_eq rfl (encode_descriptor_toNat _),
    fun hi => ⟨?_, ?_⟩, fun hi => ⟨?_, ?_⟩, fun c n => readLast_resetWith c n i.val⟩
  · exact exec_read (i := .rdLast i) rfl nofun (decide_eq_true hi)
  · exact exec_read (i := .rdPeriod i) rfl nofun (decide_eq_true hi)
  · exact exec_of_not_wf_eq (decide_eq_false hi.not_gt) (encode_descriptor_toNat _)
  · exact exec_of_not_wf_eq (decide_eq_false hi.not_gt) (encode_descriptor_toNat _)

end Sys2Proof.Machine

/-! PROOFS. The family 43_config_and_bus.md: the configuration words as numbers (R160 to R162). -/

namespace Sys2Proof.Machine

/-- CFG0 as a number: N_TASKS above N_LEDS, both of which fit their fields under the ranges of R6. -/
theorem cfg0Word_toNat {c : Config} (hc : c.Valid) : (cfg0Word c).toNat = c.nTasks * 2 ^ 16 + c.nLeds := by
  obtain ⟨-, hleds, -, htasks, -⟩ := hc
  have htop : (0 : BitVec 12).toNat = 0 := rfl
  rw [cfg0Word, append_toNat, append_toNat, htop, BitVec.toNat_ofNat, BitVec.toNat_ofNat,
    Nat.mod_eq_of_lt (show c.nTasks < 2 ^ 4 by omega), Nat.mod_eq_of_lt (show c.nLeds < 2 ^ 16 by omega),
    Nat.zero_mul, Nat.zero_add]

/-- CFG1 as a number: DUTY_LONG above DUTY_SHORT. -/
theorem cfg1Word_toNat (c : Config) : (cfg1Word c).toNat = c.dutyLong.toNat * 2 ^ 16 + c.dutyShort.toNat :=
  concatHalves_toNat _ _

/-- CFG2 as a number: PWM_PERIOD alone. -/
theorem cfg2Word_toNat (c : Config) : (cfg2Word c).toNat = c.pwmPeriod.toNat :=
  (concatHalves_toNat 0 _).trans (by rw [show (0 : Half).toNat = 0 from rfl, Nat.zero_mul, Nat.zero_add])

/-- Settles O41: each read returns its configuration word and changes nothing, and the words are these numbers. -/
theorem configurationReads : Obligations.ConfigurationReads :=
  ⟨rfl, rfl, rfl, fun s hc =>
    ⟨⟨cfg0Word s.cfg, cfg0Word_toNat hc, exec_read (i := .rdCfg0) rfl nofun rfl⟩,
      ⟨cfg1Word s.cfg, cfg1Word_toNat s.cfg, exec_read (i := .rdCfg1) rfl nofun rfl⟩,
      ⟨cfg2Word s.cfg, cfg2Word_toNat s.cfg, exec_read (i := .rdCfg2) rfl nofun rfl⟩⟩⟩

end Sys2Proof.Machine

/-! PROOFS. The family 60_exceptions.md: every operation completes (R180, R190), the fault record grows at a bus error
only and no operation shrinks it (R181), each error condition leaves its own record (R180, R189), and in a fair run a
busy frame is ended by its completion (R186). -/

namespace Sys2Proof.Machine

open Sys2Proof.Safety

/-! ### Completion and the fault record (60_exceptions.md R180, R181, R190) -/

/-- A CTRL write raises no bus error and takes neither an input nor a draw. -/
theorem command_keeps_record (v : Word) (s : State) :
    (command v s).faults = s.faults ∧ (command v s).schedule = s.schedule ∧ (command v s).draws = s.draws := by
  obtain ⟨b, l, h | ⟨-, -, -, h⟩⟩ := command_cases v s <;> rw [h] <;> exact ⟨rfl, rfl, rfl⟩

/-- An operation takes neither an input nor a draw: only a step does. -/
theorem ExecCase.schedule_draws_eq {i : Instr} {s t : State} (h : ExecCase i s t) :
    t.schedule = s.schedule ∧ t.draws = s.draws := by
  cases h with
  | ctrl v => exact (command_keeps_record v s).2
  | period _ _ ht => cases ht <;> exact ⟨rfl, rfl⟩
  | _ => exact ⟨rfl, rfl⟩

/-- All that an operation can do to the fault record: keep it, or add one bus error and change nothing else; an event
keeps it (R181). -/
theorem ExecCase.faults_cases {i : Instr} {s t : State} (h : ExecCase i s t) :
    t.faults = s.faults ∨ (isEvent i = false ∧ ∃ d, t = errored s d) := by
  cases h with
  | error d hi => exact .inr ⟨hi.1, d, rfl⟩
  | ctrl v => exact .inl (command_keeps_record v s).1
  | period _ _ ht => cases ht <;> exact .inl rfl
  | _ => exact .inl rfl

/-- No operation loses an entry of the fault record. -/
theorem ExecCase.faults_kept {i : Instr} {s t : State} (h : ExecCase i s t) : s.faults <+: t.faults := by
  rcases h.faults_cases with hkept | ⟨-, d, rfl⟩
  · exact ⟨[], (List.append_nil _).trans hkept.symm⟩
  · exact ⟨[.busError d], rfl⟩

theorem faults_of_fetch_run {s u : State} {i : Instr} (h : fetch s = .run i u) : u.faults = s.faults := by
  rcases fetch_run_cases h with ⟨-, rfl, -⟩ | ⟨-, -, -, rfl, -⟩ <;> rfl

/-- Settles O13: every operation leaves one of the cases, and none of them touches these three fields. -/
theorem everyOperationCompletes : Obligations.EveryOperationCompletes := by
  intro i s
  obtain ⟨t, ht, hc⟩ := exec_next i s
  exact ⟨t, ht, hc.cfg_eq, hc.schedule_draws_eq⟩

/-- Settles O42: BUS_ERROR is the record and the error response alone, and no operation shrinks the record. -/
theorem busErrorIsRecordedForGood : Obligations.BusErrorIsRecordedForGood :=
  ⟨fun _ _ => rfl, fun _ _ _ h => (exec_cases h).faults_kept⟩

/-- Settles O43: a step is an operation, which keeps the record's entries, or the reset input. -/
theorem onlyResetEmptiesTheFaultRecord : Obligations.OnlyResetEmptiesTheFaultRecord := by
  intro s t h
  rcases step_cases h with ⟨i, u, hf, hc⟩ | ⟨u, hf, -⟩
  · exact .inl (faults_of_fetch_run hf ▸ hc.faults_kept)
  · obtain ⟨-, rest, hs⟩ := fetch_restart hf
    exact .inr (hs ▸ rfl)

/-! ### The error conditions (R180, R182, R183, R189) -/

theorem conditionsOf_wrCtrl_of_no_start {v : Word} {s : State} (hv : v.getLsbD 0 = false) :
    conditionsOf (.wrCtrl v) s = [] :=
  if_neg (Bool.eq_false_iff.1 hv)

/-- A START is tested for busy before its length (R189). -/
theorem conditionsOf_wrCtrl_of_start {v : Word} {s : State} (hv : v.getLsbD 0 = true) :
    conditionsOf (.wrCtrl v) s =
      if s.busy then [.errBusy] else if s.frameLen.toNat > s.cfg.nLeds then [.errLen] else [] :=
  if_pos hv

/-- Of the operations other than a CTRL write only a bus error and an access to an absent index meet a condition. -/
theorem conditionsOf_eq_of_ne_wrCtrl {i : Instr} (s : State) (hctrl : ∀ v, i ≠ .wrCtrl v)
    (herr : ∀ d, i ≠ .busError d) : conditionsOf i s = if i.wf s.cfg then [] else [.busError] := by
  cases i with
  | wrCtrl v => exact absurd rfl (hctrl v)
  | busError d => exact absurd rfl (herr d)
  | _ => rfl

/-- All that an operation can leave in the fault record and the sticky bits, by the conditions it meets: a sticky bit
that is not due does not rise, and beside a bus error nothing changes at all. -/
inductive Recorded (s t : State) : List ErrorCondition → Prop where
  | busError (d : Word) (ht : t = errored s d) : Recorded s t [.busError]
  | errBusy (hfaults : t.faults = s.faults) (hbusy : t.errBusy = true) (hlen : t.errLen = true → s.errLen = true) :
      Recorded s t [.errBusy]
  | errLen (hfaults : t.faults = s.faults) (hbusy : t.errBusy = true → s.errBusy = true) (hlen : t.errLen = true) :
      Recorded s t [.errLen]
  | none (hfaults : t.faults = s.faults) (hbusy : t.errBusy = true → s.errBusy = true)
      (hlen : t.errLen = true → s.errLen = true) : Recorded s t []

/-- A CTRL write records the condition of its START, and ERR_CLR before it sets neither bit (41_transmitter.md R124 to
R126). -/
theorem recorded_command (v : Word) (s : State) :
    Recorded s (completeWrite (command v s)) (conditionsOf (.wrCtrl v) s) := by
  have hfaults : (completeWrite (command v s)).faults = s.faults := (command_keeps_record v s).1
  have hbusyClr : (errClred v s).errBusy = true → s.errBusy = true := Bool.and_elim_left
  have hlenClr : (errClred v s).errLen = true → s.errLen = true := Bool.and_elim_left
  cases hv : v.getLsbD 0
  · rw [conditionsOf_wrCtrl_of_no_start hv]
    rw [command_of_no_start hv] at hfaults ⊢
    exact .none hfaults hbusyClr hlenClr
  · rw [conditionsOf_wrCtrl_of_start hv]
    rw [command_of_start hv] at hfaults ⊢
    rcases startFrame_cases (errClred v s) with ⟨(hb : s.busy = true), h⟩ |
      ⟨(hb : s.busy = false), (hl : s.cfg.nLeds < s.frameLen.toNat), h⟩ |
      ⟨(hb : s.busy = false), (hl : s.frameLen.toNat ≤ s.cfg.nLeds), h⟩ <;> rw [h] at hfaults ⊢
    · rw [if_pos hb]
      exact .errBusy hfaults rfl hlenClr
    · rw [if_neg (Bool.eq_false_iff.1 hb), if_pos hl]
      exact .errLen hfaults hbusyClr rfl
    · rw [if_neg (Bool.eq_false_iff.1 hb), if_neg hl.not_gt]
      exact .none hfaults hbusyClr hlenClr

theorem writeEffect_faults (i : Instr) (s : State) : (writeEffect i s).faults = s.faults := by
  cases i with
  | wrCtrl v => exact (command_keeps_record v s).1
  | _ => rfl

/-- An operation that some descriptor spells, other than BUS_ERROR, records no bus error. -/
theorem faults_eq_of_wf {i : Instr} {s t : State} (hw : i.wf s.cfg = true) (herr : ∀ d, i ≠ .busError d)
    (h : exec i s = .next t) : t.faults = s.faults := by
  have hread (hr : isRead i = true) (hcheck : ∀ ch, i ≠ .rdCheck ch) : t.faults = s.faults := by
    cases (exec_read hr hcheck hw).symm.trans h
    rfl
  have hwrite (v : Word) (hv : writeData i = some v) : t.faults = s.faults := by
    cases (exec_write hv hw).symm.trans h
    exact writeEffect_faults i s
  have hevent (he : isEvent i = true) : t.faults = s.faults :=
    (exec_cases h).faults_cases.resolve_right fun ⟨hne, _⟩ => Bool.noConfusion (he.symm.trans hne)
  cases i with
  | rdCtrl | rdStatus | rdFrameLen | rdTick | rdCfg0 | rdCfg1 | rdCfg2 | rdXfer => exact hread rfl nofun
  | rdLast | rdPeriod | rdColor | rdPulse => exact hread rfl nofun
  | rdCheck ch =>
    have hch : onIndexed (.rdCheck ch) _ (checkChannel ch.val) s = checkChannel ch.val s := onIndexed_of_present hw
    cases (congrArg Host.Outcome.next hch).symm.trans h
    rcases checkChannel_cases ch.val s with ⟨-, hcheck⟩ | ⟨-, hcheck⟩ <;> rw [hcheck] <;> rfl
  | wrCtrl | wrStatus | wrFrameLen | wrTick | wrCfg0 | wrCfg1 | wrCfg2 | wrXfer => exact hwrite _ rfl
  | wrLast | wrPeriod | wrCheck | wrColor | wrPulse => exact hwrite _ rfl
  | evTick | evPeriod | evComplete => exact hevent rfl
  | busError d => exact absurd rfl (herr d)

/-- An operation other than a CTRL write changes neither sticky bit. -/
theorem ExecCase.errors_eq {i : Instr} {s t : State} (h : ExecCase i s t) (hi : ∀ v, i ≠ .wrCtrl v) :
    t.errBusy = s.errBusy ∧ t.errLen = s.errLen := by
  obtain ⟨-, -, -, -, -, herr, -⟩ := ownFields_writers h
  by_contra hne
  obtain ⟨v, hv⟩ := herr (not_and_or.1 hne)
  exact hi v hv

/-- Every operation records exactly the conditions it meets. -/
theorem recorded_conditions {i : Instr} {s t : State} (h : exec i s = .next t) :
    Recorded s t (conditionsOf i s) := by
  by_cases hctrl : ∃ v, i = .wrCtrl v
  · obtain ⟨v, rfl⟩ := hctrl
    cases h
    exact recorded_command v s
  by_cases herr : ∃ d, i = .busError d
  · obtain ⟨d, rfl⟩ := herr
    cases h
    exact .busError d rfl
  rw [not_exists] at hctrl herr
  rw [conditionsOf_eq_of_ne_wrCtrl s hctrl herr]
  cases hw : i.wf s.cfg
  · cases (exec_of_not_wf hw).symm.trans h
    exact .busError _ rfl
  · obtain ⟨hbusy, hlen⟩ := (exec_cases h).errors_eq hctrl
    exact .none (faults_eq_of_wf hw herr h) hbusy.symm.trans hlen.symm.trans

/-- Settles O45: each clause in each of the four cases of what an operation records. -/
theorem atMostOneErrorPerOperation : Obligations.AtMostOneErrorPerOperation := by
  intro i s t h
  have hrec := recorded_conditions h
  generalize conditionsOf i s = conditions at hrec ⊢
  cases hrec with
  | busError d ht => simp [ht]
  | errBusy hfaults hbusy hlen => simpa [hfaults, hbusy] using hlen
  | errLen hfaults hbusy hlen => simpa [hfaults, hlen] using hbusy
  | none hfaults hbusy hlen => simpa [hfaults] using ⟨hbusy, hlen⟩

/-! ### A fair run ends every frame (R186) -/

/-- How many entries of the frame are still to be copied. -/
def entriesLeft (s : State) : Nat := s.pulseLen.toNat - s.idx.toNat

theorem entriesLeft_copied {s : State} (hx : s.idx.toNat < s.pulseLen.toNat) :
    entriesLeft (appendPeriod (copyEntry s)) + 1 = entriesLeft s := by
  simp only [entriesLeft, appendPeriod_pulseLen, copyEntry_pulseLen, appendPeriod_idx, copyEntry_idx,
    idx_add_one_toNat hx]
  omega

/-- While the block is busy no operation adds entries to the frame in flight. -/
theorem entriesLeft_le {i : Instr} {s t : State} (hb : s.busy = true) (h : exec i s = .next t) :
    entriesLeft t ≤ entriesLeft s := by
  cases (exec_cases h).transmitterCase with
  | kept ht => rw [entriesLeft, ht.pulseLen, ht.idx, entriesLeft]
  | started v u _ hu hidle => exact absurd (hidle.symm.trans (hu.busy.trans hb)) nofun
  | copied _ _ hx => exact entriesLeft_copied hx ▸ Nat.le_succ _
  | drained => exact le_rfl
  | finished => exact le_rfl

/-- With an entry left each period copies one. -/
theorem entriesLeft_lt_of_period {s t : State} (hs : BlockInv s) (hb : s.busy = true) (hleft : 0 < entriesLeft s)
    (h : exec .evPeriod s = .next t) : entriesLeft t < entriesLeft s := by
  have hx : s.idx.toNat < s.pulseLen.toNat := Nat.lt_of_sub_pos hleft
  cases (exec_evPeriod_of_left (outEn_of_busy hs hb) hx).symm.trans h
  exact entriesLeft_copied hx ▸ Nat.lt_succ_self _

/-- A frame with no entry left waits for its completion (10_state.md R44). -/
theorem tcPend_of_no_entriesLeft {s : State} (hs : BlockInv s) (hb : s.busy = true) (hnone : entriesLeft s = 0) :
    s.tcPend = true := by
  have hx := idx_eq_of_pulseLen_le hs hb (Nat.le_of_sub_eq_zero hnone)
  obtain ⟨-, -, -, hbusy, -⟩ := hs
  obtain ⟨-, -, -, -, -, hpend, -⟩ := hbusy hb
  exact hpend.2 hx

section
variable {σ : Nat → State} {ι : Nat → Instr}

theorem execution_blockInv (hrun : Execution σ ι) (h0 : BlockInv (σ 0)) (n : Nat) : BlockInv (σ n) := by
  induction n with
  | zero => exact h0
  | succ n ih => exact (exec_cases (hrun n)).blockInv ih

/-- In a run that stays busy the entries left never grow. -/
theorem entriesLeft_antitone (hrun : Execution σ ι) {n : Nat} (hbusy : ∀ m, n ≤ m → (σ m).busy = true)
    {a b : Nat} (ha : n ≤ a) (hab : a ≤ b) : entriesLeft (σ b) ≤ entriesLeft (σ a) := by
  induction b, hab using Nat.le_induction with
  | base => exact le_rfl
  | succ b hab ih => exact (entriesLeft_le (hbusy b (ha.trans hab)) (hrun b)).trans ih

/-- In a run that stays busy the periods, which never cease, exhaust the frame. -/
theorem exists_no_entriesLeft (hrun : Execution σ ι) (h0 : BlockInv (σ 0))
    (hperiod : ∀ n, ∃ m, n ≤ m ∧ ι m = .evPeriod) {n : Nat} (hbusy : ∀ m, n ≤ m → (σ m).busy = true) :
    ∃ m, n ≤ m ∧ entriesLeft (σ m) = 0 := by
  induction hk : entriesLeft (σ n) using Nat.strong_induction_on generalizing n with
  | _ k ih =>
    obtain ⟨p, hnp, hp⟩ := hperiod n
    have hle := hk ▸ entriesLeft_antitone hrun hbusy le_rfl hnp
    rcases Nat.eq_zero_or_pos (entriesLeft (σ p)) with hnone | hleft
    · exact ⟨p, hnp, hnone⟩
    · have hlt := entriesLeft_lt_of_period (execution_blockInv hrun h0 p) (hbusy p hnp) hleft (hp ▸ hrun p)
      obtain ⟨m, hpm, hm⟩ := ih _ (hlt.trans_le hle) (fun m hpm => hbusy m (by omega)) rfl
      exact ⟨m, by omega, hm⟩

/-- In a run that stays busy completion pends from some step on. -/
theorem exists_tcPend_forever (hrun : Execution σ ι) (h0 : BlockInv (σ 0))
    (hperiod : ∀ n, ∃ m, n ≤ m ∧ ι m = .evPeriod) {n : Nat} (hbusy : ∀ m, n ≤ m → (σ m).busy = true) :
    ∃ d, n ≤ d ∧ ∀ m, d ≤ m → (σ m).tcPend = true := by
  obtain ⟨d, hnd, hd⟩ := exists_no_entriesLeft hrun h0 hperiod hbusy
  refine ⟨d, hnd, fun m hdm => ?_⟩
  have hle := entriesLeft_antitone hrun hbusy hnd hdm
  exact tcPend_of_no_entriesLeft (execution_blockInv hrun h0 m) (hbusy m (hnd.trans hdm)) (Nat.le_zero.1 (hd ▸ hle))

/-- Only a completion ends a busy span, so a run without one stays busy. -/
theorem busy_forever (hrun : Execution σ ι) {n : Nat} (hb : (σ n).busy = true)
    (hnever : ∀ m, n ≤ m → ι m = .evComplete → (σ m).busy = true → (σ (m + 1)).busy = true) {m : Nat} (hnm : n ≤ m) :
    (σ m).busy = true := by
  induction m, hnm using Nat.le_induction with
  | base => exact hb
  | succ m hnm ih =>
    by_contra hidle
    obtain ⟨hi, -⟩ := complete_of_busy_falls (hrun m) ih (Bool.eq_false_iff.2 hidle)
    exact hidle (hnever m hnm hi ih)

end

/-- Settles O48: were the frame never ended, the block would stay busy, completion would come to pend for good, and the
EV_COMPLETE that fairness then brings would end the frame. -/
theorem fairRunsEndEveryFrame : Obligations.FairRunsEndEveryFrame := by
  rintro σ ι hrun ⟨hcomplete, hperiod, -⟩ h0 n hb
  by_contra hnever
  have hbusy (m : Nat) (hnm : n ≤ m) : (σ m).busy = true :=
    busy_forever hrun hb (fun m hnm hi hm => by_contra fun hidle =>
      hnever ⟨m, hnm, hi, hm, Bool.eq_false_iff.2 hidle⟩) hnm
  obtain ⟨d, hnd, hpend⟩ := exists_tcPend_forever hrun h0 hperiod hbusy
  obtain ⟨m, hdm, hi⟩ := hcomplete d hpend
  have hend : σ (m + 1) = finishFrame (σ m) :=
    exec_unique (hi ▸ hrun m) (exec_evComplete_of_pending (hpend m hdm))
  exact hnever ⟨m, hnd.trans hdm, hi, hbusy m (hnd.trans hdm), hend ▸ finishFrame_busy _⟩

end Sys2Proof.Machine

/-! PROOFS. The family 70_reset_and_hazards.md: the reset input as one step (R200), what the host reads after it (R201),
and the internal events of an idle block (R213). -/

namespace Sys2Proof.Machine

open Sys2Proof.Safety

/-! ### The reset input (70_reset_and_hazards.md R200) -/

theorem step_of_reset {s : State} {rest : List Input} (hs : s.schedule = .reset :: rest) :
    step s = .next (assertReset (popInput s)) := by
  simp only [step, fetch_reset s rest hs]

/-- The longest strip fits in the 16 bits of FRAME_LEN (00_scope.md R6). -/
theorem resetWith_frameLen_toNat {c : Config} (n : Nat) (hmax : c.nLeds ≤ 341) :
    (State.resetWith c n).frameLen.toNat = c.nLeds :=
  Nat.mod_eq_of_lt (show c.nLeds < 2 ^ 16 by omega)

/-- Settles O8: the step leaves `assertReset`, whose arrays hold the draws of the reset state. -/
theorem resetInputLeavesTheResetState : Obligations.ResetInputLeavesTheResetState := by
  intro s rest hmax hs
  exact ⟨assertReset (popInput s), step_of_reset hs, rfl, resetWith_frameLen_toNat s.draws hmax, rfl, rfl, rfl, rfl,
    rfl, rfl, rfl, rfl, rfl, rfl, rfl, rfl, assertReset_ramWf _, readColor_resetWith s.cfg s.draws,
    readPulse_resetWith s.cfg s.draws⟩

/-! ### The host's reads after reset (R201) -/

theorem statusWord_resetWith (c : Config) (n : Nat) : statusWord (State.resetWith c n) = 0 :=
  BitVec.eq_of_toNat_eq (statusWord_toNat _)

/-- A read of an existing word, with the value it returns. -/
theorem exec_read_of_value {i : Instr} {s : State} {v : Word} (hr : isRead i = true) (hcheck : ∀ ch, i ≠ .rdCheck ch)
    (hw : i.wf s.cfg = true) (hv : readValue i s = v) : exec i s = .next (answered s (.data v)) := by
  rw [exec_read hr hcheck hw, hv]

/-- Settles O10: each read returns its word of the reset state and changes nothing. -/
theorem resetStateReadsAsStated : Obligations.ResetStateReadsAsStated := by
  rintro c n ⟨-, hmax, -⟩
  have hframe : (zextHalf (State.resetWith c n).frameLen).toNat = c.nLeds :=
    (zextHalf_toNat _).trans (resetWith_frameLen_toNat n hmax)
  exact ⟨phase_of_idle rfl, exec_read_of_value rfl nofun rfl (statusWord_resetWith c n),
    exec_read_of_value rfl nofun rfl (xferWord_resetWith c n), ⟨_, hframe, exec_read (i := .rdFrameLen) rfl nofun rfl⟩,
    exec_read (i := .rdTick) rfl nofun rfl, readLast_resetWith c n, rfl⟩

/-! ### The internal events of an idle block (R213) -/

/-- Settles O49: an idle block has its output off and no completion pending, so the events only count the ticks. -/
theorem idleEventsChangeOnlyTick : Obligations.IdleEventsChangeOnlyTick := by
  rintro ops s t ⟨-, -, hidle, -⟩ hb hops h
  obtain ⟨hout, htc, -⟩ := hidle hb
  cases execAll_events_of_stopped hops hout htc h
  refine ⟨rfl, ?_⟩
  rw [setTick_tick, BitVec.toNat_add, BitVec.toNat_ofNat, Nat.add_mod_mod]

end Sys2Proof.Machine
